-- ==== Sys2Proof/Word.lean ====
section
/-! DEFINITION. The word types of the RC-96 and the one way tables of a fixed length are read and changed. -/

namespace Sys2Proof

/-- One byte of a frame (R172). -/
abbrev Byte := BitVec 8

/-- A set of zones 0..7 or of robots 0..7, one bit each (R124, R55, R94). -/
abbrev Set8 := BitVec 8

/-- A set of rows 0..95, one bit each, row 0 in the lowest bit (R118). -/
abbrev RowSet := BitVec 96

/-- Entry `i` of a table; `d` where the number is outside the table. -/
def look {α : Type} {n : Nat} (v : Vector α n) (d : α) (i : Nat) : α :=
  if h : i < n then v[i] else d

/-- The table with entry `i` changed by `f`; unchanged where the number is outside the table. -/
def upd {α : Type} {n : Nat} (v : Vector α n) (i : Nat) (f : α → α) : Vector α n :=
  if h : i < n then v.set i (f v[i]) else v

/-- `x` brought to the nearest limit of `lo..hi`. -/
def clampNat (lo hi x : Nat) : Nat := if x < lo then lo else if hi < x then hi else x

/-- `x` brought to the nearest limit of `lo..hi`. -/
def clampInt (lo hi x : Int) : Int := if x < lo then lo else if hi < x then hi else x

end Sys2Proof
end

