-- ==== Sys2Proof/Syntax.lean ====
section
/-! DEFINITION. The commands of the RC-96: one constructor of `Instr` for each row of spec/opcode_table.json, with
its operands, and the request bodies that a frame can carry. -/

namespace Sys2Proof

/-- The three links (R172). -/
inductive Link where
  | T | F | P
  deriving DecidableEq, Repr

/-- A coded field of a body: `none` stands for a code outside the field's values (R175, MALFORMED). -/
abbrev Coded (α : Type) := Option α

/-- The places a ROBOT REPORT can name (R56). -/
inductive Place where
  | atStation | onPanels | anchored | onCarriage | fault
  deriving DecidableEq, Repr

/-- The tracker states (R9). UNKNOWN is inferred and cannot be reported (R6). -/
inductive TrackerState where
  | unknown | tracking | holding | stowing | stowed | fault
  deriving DecidableEq, Repr

/-- The severities PARK and CRITICAL; `none : Option Sev` is the level none (R124, R135). -/
inductive Sev where
  | park | critical
  deriving DecidableEq, Repr

/-- The four hazards (R124). -/
inductive Hazard where
  | wind | plant | tracker | line
  deriving DecidableEq, Repr

/-- The clearing modes of a hazard (R130). -/
inductive ClearMode where
  | auto | ack | ackGone
  deriving DecidableEq, Repr

/-- The two anemometer channels (R119). -/
inductive Channel where
  | anem0 | anem1
  deriving DecidableEq, Repr

/-- The forms of PERMIT QUERY (R16). -/
inductive QueryForm where
  | summary | detail
  deriving DecidableEq, Repr

/-- The direction of a SPAN round (R94). -/
inductive Direction where
  | ascending | descending
  deriving DecidableEq, Repr

/-- The trigger of a DUE round (R94, R98). -/
inductive Trigger where
  | dueCount (k : Nat)
  | immediate
  deriving DecidableEq, Repr

/-- The kind of a round with the fields of that kind (R94). -/
inductive RoundSpec where
  | span (start count : Nat) (dir : Direction)
  | due (mask : Set8) (limit : Nat) (trigger : Trigger)
  deriving DecidableEq, Repr

/-- The scalar items of a coefficient set (R164). -/
inductive CoeffItem where
  | w | eMin | dueOn | dueOff | loadEvery
  deriving DecidableEq, Repr

/-- The forms of COEFF WRITE (R164): pairs are K_TRACK and K_ALT. -/
inductive CoeffForm where
  | rows (first count : Nat) (values : List (Nat × Nat))
  | scalar (item : CoeffItem) (value : Nat)
  deriving DecidableEq, Repr

/-- The two coefficient sets (R164). -/
inductive CoeffSetName where
  | active | pending
  deriving DecidableEq, Repr

/-- A set of links (R41). -/
structure LinkSet where
  t : Bool
  f : Bool
  p : Bool
  deriving DecidableEq, Repr

/-- The four rights (R43). -/
inductive Right where
  | report | entry | round | transfer
  deriving DecidableEq, Repr

/-- A set of rights (R41). -/
structure RightSet where
  report : Bool
  entry : Bool
  round : Bool
  transfer : Bool
  deriving DecidableEq, Repr

/-- An access window (R41). -/
structure Window where
  enabled : Bool
  base : Nat
  limit : Nat
  links : LinkSet
  rights : RightSet
  deriving DecidableEq, Repr

/-- The configuration items whose value is one number with a range (section 11.6). -/
inductive NumItem where
  | rows | crossing | crossTol | breachTol | trackerSilence | approach | guard | census
  | silence | recovery | transferTime | tUpper | tLower | battMin | cal0 | cal1
  | windRel | windPark | windCrit | windHold | review | forced
  deriving DecidableEq, Repr

/-- The rates of LINK_RATE (section 11.6). -/
inductive LinkRate where
  | b9600 | b19200 | b38400 | b57600 | b115200
  deriving DecidableEq, Repr

/-- The notice kinds, in the order of their codes 0x01..0x14 (R178). -/
inductive NoticeKind where
  | permit | entryGrant | entryFailed | holdBreach | intrusion | forcedStow | hazard | zoneState
  | robotOrder | transferGrant | transferEnd | robotState | roundState | carriageState
  | trackerSilent | settled | dueChange | accountFrozen | accountsLost | configState
  deriving DecidableEq, Repr

/-- A configuration item with its index, as CONFIG READ names it (R186). `unknown` is an item code outside the list. -/
inductive ItemRef where
  | num (i : NumItem)
  | rowZone (row : Nat)
  | installed
  | window (n : Nat)
  | linkEnable
  | anemEnable (c : Channel)
  | mode (h : Hazard)
  | map (h : Hazard)
  | lineLevel
  | noticeClass (l : Link) (k : Coded NoticeKind)
  | linkRate
  | unknown
  deriving DecidableEq, Repr

/-- A configuration item with its index and a value: what CONFIG WRITE carries, what an item record of the image
holds (R183) and what CONFIG READ returns (R186). -/
inductive Item where
  | num (i : NumItem) (v : Int)
  | rowZone (row v : Nat)
  | installed (robots : Set8)
  | window (n : Nat) (w : Window)
  | linkEnable (t f : Bool)
  | anemEnable (c : Channel) (v : Coded Bool)
  | mode (h : Hazard) (v : Coded ClearMode)
  | map (h : Hazard) (v : Set8)
  | lineLevel (v : Coded Sev)
  | noticeClass (l : Link) (k : Coded NoticeKind) (priority : Nat) (masked : Bool)
  | linkRate (v : Coded LinkRate)
  | unknown
  deriving DecidableEq, Repr

/-- One entry of a TRACKER REPORT (R6). The angle is a signed 16-bit number; −32768 says it is not known. `before` is no
field of the entry's four bytes: it is what the sender says of the time at which the entry is decoded, the CONFIG WRITEs
that are taken on the P-link between the decode of the entry before it and its own, or between the link-enable check and
its own decode for the first entry (R46, log entry 26). -/
structure TrackerEntry where
  row : Nat
  state : Coded TrackerState
  angle : Int
  before : List Item := []
  deriving DecidableEq, Repr

/-- The coefficient block of the image: K_TRACK and K_ALT of rows 0, 1, … and the scalar items that it holds (R183,
R164). What it does not hold takes its default. -/
structure CoeffBlock where
  rows : List (Nat × Nat)
  scalars : List (CoeffItem × Nat)
  deriving DecidableEq, Repr

/-- A configuration image as the loader finds it (R183, R184): its bytes from the header on, and what they say: the format
code and the image length of the header, the item records and the coefficient block. The spec does not lay these bytes
out (log entry 13); where the CRC-16 stands follows from the length. -/
structure Image where
  format : Nat
  length : Nat
  bytes : List Byte
  items : List Item
  coeffs : CoeffBlock
  deriving DecidableEq, Repr

/-- What the loader finds at the serial memory (R184). -/
inductive MemoryRead where
  | noAnswer
  | headerOnes
  | image (i : Image)
  deriving DecidableEq, Repr

/-- The request types of R175. -/
inductive ReqType where
  | status | fetchNotice | permitQuery | robotQuery | carriageQuery | roundQuery | zoneQuery | hazardQuery
  | trackerReport | stowAll | stowAllEnd
  | entryRequest | robotReport | passComplete | carriageReport | transferRequest
  | roundStart | roundPause | roundResume | roundAbort
  | parkOrder | parkRelease | hazardAck | lostRelease | carriageClear | windowTest
  | intervalReport | coeffWrite | coeffCommit | coeffRevoke | coeffRead | accountRead | accountClear
  | configWrite | configRead | configApply | configSave | restart
  deriving DecidableEq, Repr

/-- A request with the fields its rule gives it: what the BODY of a request frame says (R175). -/
inductive Request where
  | status
  | fetchNotice
  | permitQuery (first count : Nat) (form : Coded QueryForm)
  | robotQuery (first count : Nat)
  | carriageQuery
  | roundQuery
  | zoneQuery
  | hazardQuery
  | trackerReport (count : Nat) (entries : List TrackerEntry)
  | stowAll
  | stowAllEnd
  | entryRequest (robot row : Nat)
  | robotReport (robot : Nat) (place : Coded Place) (row : Nat) (position battery : Option Nat)
  | passComplete (robot row : Nat)
  | carriageReport (position : Option Nat)
  | transferRequest (robot row : Nat)
  | roundStart (slot robot : Nat) (spec : Coded RoundSpec)
  | roundPause (slot : Nat)
  | roundResume (slot : Nat)
  | roundAbort (slot : Nat)
  | parkOrder (level : Coded Sev)
  | parkRelease
  | hazardAck (h : Coded Hazard)
  | lostRelease (robot : Nat)
  | carriageClear
  | windowTest (link : Coded Link) (row : Nat)
  | intervalReport (irradiation first count : Nat) (energies : List Nat)
  | coeffWrite (form : Coded CoeffForm)
  | coeffCommit
  | coeffRevoke
  | coeffRead (set : Coded CoeffSetName) (first count : Nat)
  | accountRead (row : Nat)
  | accountClear (row : Option Nat)
  | configWrite (item : Item)
  | configRead (item : ItemRef)
  | configApply
  | configSave
  | restart
  deriving DecidableEq, Repr

/-- The commands: one constructor for each row of spec/opcode_table.json. A request row names the link its frame
arrived on and the fields of its body; an event row names the row, robot, channel, link, byte or sample it concerns. -/
inductive Instr where
  | fullReset (storeWriting : Bool)
  | vbatLoss
  | loadEnd (found : MemoryRead)
  | frameComplete (l : Link) (type tag : Byte) (body : List Byte)
  | frameCrcError (l : Link)
  | interbyteGap (l : Link)
  | status (l : Link)
  | fetchNotice (l : Link)
  | permitQuery (l : Link) (first count : Nat) (form : Coded QueryForm)
  | robotQuery (l : Link) (first count : Nat)
  | carriageQuery (l : Link)
  | roundQuery (l : Link)
  | zoneQuery (l : Link)
  | hazardQuery (l : Link)
  | trackerReport (l : Link) (count : Nat) (entries : List TrackerEntry)
  | trackerSilenceExpiry (row : Nat)
  | censusExpiry
  | entryRequest (l : Link) (robot row : Nat)
  | approachExpiry (row : Nat)
  | guardInExpiry (row : Nat)
  | guardOutExpiry (row : Nat)
  | boardingExpiry (row : Nat)
  | robotReport (l : Link) (robot : Nat) (place : Coded Place) (row : Nat) (position battery : Option Nat)
  | passComplete (l : Link) (robot row : Nat)
  | robotSilenceExpiry (robot : Nat)
  | lostRelease (l : Link) (robot : Nat)
  | carriageReport (l : Link) (position : Option Nat)
  | transferRequest (l : Link) (robot row : Nat)
  | transferTimerExpiry
  | carriageClear (l : Link)
  | roundStart (l : Link) (slot robot : Nat) (spec : Coded RoundSpec)
  | roundPause (l : Link) (slot : Nat)
  | roundResume (l : Link) (slot : Nat)
  | roundAbort (l : Link) (slot : Nat)
  | anemPulse (ch : Channel)
  | windEvaluation
  | hazNSample (high : Bool)
  | parkOrder (l : Link) (level : Coded Sev)
  | parkRelease (l : Link)
  | stowAll (l : Link)
  | stowAllEnd (l : Link)
  | hazardReviewBoundary
  | hazardAck (l : Link) (h : Coded Hazard)
  | forcedStowExpiry (row : Nat)
  | intervalReport (l : Link) (irradiation first count : Nat) (energies : List Nat)
  | coeffWrite (l : Link) (form : Coded CoeffForm)
  | coeffCommit (l : Link)
  | coeffRevoke (l : Link)
  | coeffRead (l : Link) (set : Coded CoeffSetName) (first count : Nat)
  | accountRead (l : Link) (row : Nat)
  | accountClear (l : Link) (row : Option Nat)
  | windowTest (l : Link) (link : Coded Link) (row : Nat)
  | configWrite (l : Link) (item : Item)
  | configRead (l : Link) (item : ItemRef)
  | configApply (l : Link)
  | configSave (l : Link)
  | saveComplete (readBackMatches : Bool)
  | saveTimeout
  | restart (l : Link)
  | byteReceived (l : Link) (byte : Byte)
  | stopBitMissing (l : Link)
  | replySent (l : Link)
  | resetRelease
  | mainPowerLoss (storeWriting : Bool)
  deriving DecidableEq, Repr

/-- The type of a request (R175). -/
def Request.type : Request → ReqType
  | .status => .status
  | .fetchNotice => .fetchNotice
  | .permitQuery .. => .permitQuery
  | .robotQuery .. => .robotQuery
  | .carriageQuery => .carriageQuery
  | .roundQuery => .roundQuery
  | .zoneQuery => .zoneQuery
  | .hazardQuery => .hazardQuery
  | .trackerReport .. => .trackerReport
  | .stowAll => .stowAll
  | .stowAllEnd => .stowAllEnd
  | .entryRequest .. => .entryRequest
  | .robotReport .. => .robotReport
  | .passComplete .. => .passComplete
  | .carriageReport .. => .carriageReport
  | .transferRequest .. => .transferRequest
  | .roundStart .. => .roundStart
  | .roundPause .. => .roundPause
  | .roundResume .. => .roundResume
  | .roundAbort .. => .roundAbort
  | .parkOrder .. => .parkOrder
  | .parkRelease => .parkRelease
  | .hazardAck .. => .hazardAck
  | .lostRelease .. => .lostRelease
  | .carriageClear => .carriageClear
  | .windowTest .. => .windowTest
  | .intervalReport .. => .intervalReport
  | .coeffWrite .. => .coeffWrite
  | .coeffCommit => .coeffCommit
  | .coeffRevoke => .coeffRevoke
  | .coeffRead .. => .coeffRead
  | .accountRead .. => .accountRead
  | .accountClear .. => .accountClear
  | .configWrite .. => .configWrite
  | .configRead .. => .configRead
  | .configApply => .configApply
  | .configSave => .configSave
  | .restart => .restart

end Sys2Proof
end

