-- ==== Sys2Proof/WellFormed.lean ====
section
/-! DEFINITION. Which commands a sender can form: every operand within the width of its field in a frame
(R172: rows, robots, slots and counts in one byte, energies and coefficients in two). -/

namespace Sys2Proof

/-- A one-byte field. -/
abbrev fitsByte (n : Nat) : Bool := decide (n ≤ 255)

/-- A two-byte field. -/
abbrev fitsWord (n : Nat) : Bool := decide (n ≤ 65535)

/-- A signed 16-bit field. -/
abbrev fitsSigned (v : Int) : Bool := decide (-32768 ≤ v) && decide (v ≤ 32767)

/-- An optional one-byte field. -/
def fitsOpt (n : Option Nat) : Bool := n.all fitsByte

/-- The fields of a round (R96). -/
def RoundSpec.wf : RoundSpec → Bool
  | .span start count _ => fitsByte start && fitsByte count
  | .due _ limit (.dueCount k) => fitsByte limit && fitsByte k
  | .due _ limit .immediate => fitsByte limit

/-- The fields of COEFF WRITE (R164). -/
def CoeffForm.wf : CoeffForm → Bool
  | .rows first count values =>
      fitsByte first && fitsByte count && values.all (fun v => fitsWord v.1 && fitsWord v.2)
  | .scalar _ value => fitsWord value

/-- The fields of a configuration item (R186). -/
def Item.wf : Item → Bool
  | .num _ v => decide (-32768 ≤ v) && decide (v ≤ 65535)
  | .rowZone row v => fitsByte row && fitsByte v
  | .window n w => fitsByte n && fitsByte w.base && fitsByte w.limit
  | .noticeClass _ _ priority _ => fitsByte priority
  | .installed _ | .linkEnable _ _ | .anemEnable _ _ | .mode _ _ | .map _ _ | .lineLevel _ | .linkRate _
  | .unknown => true

/-- The fields of a TRACKER REPORT entry (R6, R176), and of the writes before its decode (R46). -/
def TrackerEntry.wf (e : TrackerEntry) : Bool := fitsByte e.row && fitsSigned e.angle && e.before.all Item.wf

/-- The index of a configuration item (R186). -/
def ItemRef.wf : ItemRef → Bool
  | .rowZone row => fitsByte row
  | .window n => fitsByte n
  | .num _ | .installed | .linkEnable | .anemEnable _ | .mode _ | .map _ | .lineLevel | .noticeClass _ _
  | .linkRate | .unknown => true

/-- An image's length, its item records and its coefficient block, which holds at most 96 rows (R183, R164). -/
def Image.wf (i : Image) : Bool :=
  fitsWord i.length && i.items.all Item.wf && decide (i.coeffs.rows.length ≤ 96)
    && i.coeffs.rows.all (fun v => fitsWord v.1 && fitsWord v.2) && i.coeffs.scalars.all (fun x => fitsWord x.2)

/-- Every operand of a command fits its field: a row of an expiry is a row record (R1), a robot of an expiry a robot
record (R54), a BODY has at most 248 bytes (R172). -/
def Instr.wf : Instr → Bool
  | .frameComplete _ _ _ body => decide (body.length ≤ 248)
  | .permitQuery _ first count _ => fitsByte first && fitsByte count
  | .robotQuery _ first count => fitsByte first && fitsByte count
  | .trackerReport _ count entries => fitsByte count && entries.all TrackerEntry.wf
  | .entryRequest _ robot row => fitsByte robot && fitsByte row
  | .robotReport _ robot _ row position battery =>
      fitsByte robot && fitsByte row && position.all fitsWord && fitsOpt battery
  | .passComplete _ robot row => fitsByte robot && fitsByte row
  | .lostRelease _ robot => fitsByte robot
  | .carriageReport _ position => fitsOpt position
  | .transferRequest _ robot row => fitsByte robot && fitsByte row
  | .roundStart _ slot robot spec => fitsByte slot && fitsByte robot && spec.all RoundSpec.wf
  | .roundPause _ slot | .roundResume _ slot | .roundAbort _ slot => fitsByte slot
  | .intervalReport _ h first count energies =>
      fitsWord h && fitsByte first && fitsByte count && energies.all fitsWord
  | .coeffWrite _ form => form.all CoeffForm.wf
  | .coeffRead _ _ first count => fitsByte first && fitsByte count
  | .accountRead _ row => fitsByte row
  | .accountClear _ row => fitsOpt row
  | .windowTest _ _ row => fitsByte row
  | .configWrite _ item => item.wf
  | .configRead _ item => item.wf
  | .trackerSilenceExpiry row | .approachExpiry row | .guardInExpiry row | .guardOutExpiry row
  | .boardingExpiry row | .forcedStowExpiry row => decide (row < 96)
  | .robotSilenceExpiry robot => decide (robot < 8)
  | .loadEnd (.image i) => i.wf
  | .loadEnd .noAnswer | .loadEnd .headerOnes
  | .fullReset _ | .vbatLoss | .frameCrcError _ | .interbyteGap _ | .status _ | .fetchNotice _
  | .carriageQuery _ | .roundQuery _ | .zoneQuery _ | .hazardQuery _ | .censusExpiry | .transferTimerExpiry
  | .carriageClear _ | .anemPulse _ | .windEvaluation | .hazNSample _ | .parkOrder _ _ | .parkRelease _
  | .stowAll _ | .stowAllEnd _ | .hazardReviewBoundary | .hazardAck _ _ | .coeffCommit _ | .coeffRevoke _
  | .configApply _ | .configSave _ | .saveComplete _ | .saveTimeout | .restart _ | .byteReceived _ _
  | .stopBitMissing _ | .replySent _ | .resetRelease | .mainPowerLoss _ => true

end Sys2Proof
end

