-- ==== Sys2Proof/Decode.lean ====
section
/-! DEFINITION. The commands that a word of spec/opcode_table.json spells. No row of the table gives bits (the RC-96 is a
block and has no instruction words), so no word spells a command. Frames are read in Machine/Frames.lean. -/

namespace Sys2Proof

/-- No row of spec/opcode_table.json gives bits: every word is rejected. -/
def decodeTableWord (_nbits _w : Nat) : Option Instr := none

end Sys2Proof
end

