-- ==== Sys2Proof/Machine/Bytes.lean ====
section
/-! DEFINITION. Bytes on a line and in the image (R172): the order of the bytes of a number, the absent values, the CRC. -/

namespace Sys2Proof.Machine

/-! ### Fields of a BODY (R172) -/

/-- A number in one byte. -/
def byteOf (n : Nat) : Byte := BitVec.ofNat 8 n

/-- A two-byte word, the least significant byte first. -/
def bytes16 (w : BitVec 16) : List Byte := [w.extractLsb' 0 8, w.extractLsb' 8 8]

/-- A four-byte word, the least significant byte first. -/
def bytes32 (w : BitVec 32) : List Byte :=
  [w.extractLsb' 0 8, w.extractLsb' 8 8, w.extractLsb' 16 8, w.extractLsb' 24 8]

/-- An optional robot, row, slot, zone or station in one byte: 0xFF is absent. -/
def optByte (n : Option Nat) : Byte :=
  match n with
  | some n => byteOf n
  | none => 0xFF

/-- An optional angle: −32768 is absent. -/
def angleBytes (a : Option Int) : List Byte := bytes16 (BitVec.ofInt 16 (a.getD (-32768)))

/-- An optional field whose range fills two bytes, after its presence byte. -/
def presentBytes (n : Option Nat) : List Byte :=
  match n with
  | some n => 1 :: bytes16 (BitVec.ofNat 16 n)
  | none => [0, 0, 0]

/-- A set of rows in 12 bytes, row 0 in the lowest bit of the first (R118). -/
def rowSetBytes (m : BitVec 96) : List Byte := (List.range 12).map (fun n => m.extractLsb' (8 * n) 8)

/-! ### The CRC (R172) -/

/-- One bit of the CRC: polynomial 0x1021, the most significant bit first. -/
def crcShift (c : BitVec 16) : BitVec 16 := if c.msb then (c <<< 1) ^^^ 0x1021 else c <<< 1

/-- One byte of the CRC. -/
def crcByte (c : BitVec 16) (b : Byte) : BitVec 16 :=
  let x := c ^^^ (b ++ (0 : Byte))
  crcShift (crcShift (crcShift (crcShift (crcShift (crcShift (crcShift (crcShift x)))))))

/-- The CRC-16 of a run of bytes: initial value 0xFFFF, no reflection, no final inversion. -/
def crc16 (bs : List Byte) : BitVec 16 := bs.foldl crcByte 0xFFFF

/-- The longest BODY of a frame (R172). -/
def bodyLimit : Nat := 248

/-- The bytes of a frame in the order they are sent (R172): SYNC, LENGTH, TYPE, TAG, BODY, and the CRC, low byte first. A BODY
of more than 248 bytes has no frame. -/
def frameBytes (type tag : Byte) (body : List Byte) : List Byte :=
  if body.length ≤ bodyLimit then
    let data := BitVec.ofNat 8 (body.length + 2) :: type :: tag :: body
    (0xA5 :: data) ++ bytes16 (crc16 data)
  else []

end Sys2Proof.Machine
end

