-- ==== Sys2Proof/Machine/State.lean ====
section
/-! DEFINITION. The state of the RC-96: the Link Interface Unit with its three ports, the rest of the part (`Core`), and
the queue of the commands that wait. Plain data. -/

namespace Sys2Proof.Machine

/-! ### The parts of a row record (R4 to R20) -/

/-- The part state (R177) with the times at which the part serves nothing: without main power, while the full reset
is held, and during the configuration load (R184). -/
inductive PartPhase where
  | off | inReset | loading | configWait | run
  deriving DecidableEq, Repr

/-- The seven permits (section 2.1). -/
inductive Permit where
  | still | freeMotion | holdReq | guardIn | entry | guardOut | stow
  deriving DecidableEq, Repr

/-- Where an entry comes from (R24, section 2.8). -/
inductive Origin where
  | fleet
  | slot (k : Nat)
  | recovery
  deriving DecidableEq, Repr

/-- The pending entry of a row (R24). -/
structure PendingEntry where
  robot : Nat
  origin : Origin
  granted : Bool
  deriving DecidableEq, Repr

/-- The mode of a row (R162). -/
inductive Mode where
  | tracking | held | stowed
  deriving DecidableEq, Repr

/-- A row record (section 1.2) but for what other names hold: the zone is the configuration item ROW_ZONE (R3),
occupancy and station occupant are derived from the robot records (R2, R4), account and SL stand in the account
store (R168). A timer is `none` while stopped, else its seconds remaining. -/
structure RowRec where
  permit : Permit := .still
  forced : Bool := false
  breach : Bool := false
  pending : Option PendingEntry := none
  approach : Option Nat := none
  guard : Option Nat := none
  boarding : Option Nat := none
  angle : Option Int := none
  tracker : TrackerState := .unknown
  age : Option Nat := none
  silent : Bool := false
  silence : Option Nat := none
  inbound : Option Nat := none
  claim : Option Nat := none
  forcedTimer : Option Nat := none
  due : Bool := false
  latch : Mode := .held
  mixed : Bool := true
  deriving DecidableEq, Repr

/-! ### Robots (R54) -/

/-- The states of a robot (R54). -/
inductive RobotState where
  | unseen | parked | onCarriage | cleaning | returning | anchored | stranded | lost
  deriving DecidableEq, Repr

/-- The orders a robot can be given (section 4.5). -/
inductive Order where
  | goRow | ret | anchor | holdAtStation | resume
  deriving DecidableEq, Repr

/-- A robot record (R54) but for `installed`, which is the configuration item INSTALLED (R55). The recovery place
holds no row for ON_CARRIAGE (R68). -/
structure Robot where
  state : RobotState := .unseen
  row : Option Nat := none
  position : Option Nat := none
  battery : Option Nat := none
  round : Option Nat := none
  onPanelsAtLoss : Bool := false
  recoveryCount : Nat := 0
  recoveryPlace : Option (Place × Option Nat) := none
  lastOrder : Option (Order × Option Nat) := none
  returnFlag : Bool := false
  silence : Option Nat := none
  deriving DecidableEq, Repr

/-! ### The carriage (R74, R76) -/

/-- The states of the carriage (R74). -/
inductive CarriageState where
  | idle | toPickup | loaded | secured | fault
  deriving DecidableEq, Repr

/-- The classes of a transfer (R76). -/
inductive TransferClass where
  | service | round
  deriving DecidableEq, Repr

/-- A queue entry or the active transfer (R74, R76). -/
structure Transfer where
  robot : Nat
  source : Nat
  dest : Nat
  cls : TransferClass
  link : Link
  slot : Option Nat
  arrival : BitVec 16
  deriving DecidableEq, Repr

/-- What TRANSFER_GRANT and TRANSFER_END carry of a transfer (R91, R178). -/
structure TransferBody where
  robot : Nat
  source : Nat
  dest : Nat
  cls : TransferClass
  slot : Option Nat
  arrival : BitVec 16
  deriving DecidableEq, Repr

/-- The outcomes of a transfer (R91). -/
inductive TransferOutcome where
  | done | cancelled | misrouted | timeout | denied
  deriving DecidableEq, Repr

/-- The carriage record, the transfer queue in grant order, the throttle and the arrival counter (R74, R76, R79). -/
structure Carriage where
  state : CarriageState := .idle
  position : Option Nat := none
  passenger : Option Nat := none
  active : Option Transfer := none
  timer : Option Nat := none
  queue : List Transfer := []
  throttle : Bool := false
  nextArrival : BitVec 16 := 0
  deriving DecidableEq, Repr

/-! ### Round slots (R94) -/

/-- The states of a slot (R94). -/
inductive SlotState where
  | idle | armed | running | paused | suspended | ended
  deriving DecidableEq, Repr

/-- The end reasons of a round (R112). -/
inductive EndReason where
  | complete | aborted | lowBattery | robotLost | noRows
  deriving DecidableEq, Repr

/-- The phases of a row (section 6.4). LEAVING is passed within an event and never held (R117). -/
inductive RowPhase where
  | seeking | waitingEntry | inPass | leaving
  deriving DecidableEq, Repr

/-- The kind of a round (R94). -/
inductive RoundKind where
  | span | due
  deriving DecidableEq, Repr

/-- A round slot (R94). `spec` holds the kind and its fields, with the clamped numbers of R97. -/
structure Slot where
  state : SlotState := .idle
  endReason : Option EndReason := none
  spec : Option RoundSpec := none
  robot : Option Nat := none
  link : Option Link := none
  nextIndex : Nat := 0
  skipSet : RowSet := 0
  current : Option (Nat × RowPhase) := none
  cleaned : Nat := 0
  skipped : Nat := 0
  remaining : Nat := 0
  pausePending : Bool := false
  deriving DecidableEq, Repr

/-! ### Wind and hazards (R119 to R129) -/

/-- An anemometer channel (R119); `enabled` is the enable in use until the next evaluation, `s1` the oldest of the
last three speeds. -/
structure WindChannel where
  enabled : Bool := true
  count : Nat := 0
  s1 : Nat := 0
  s2 : Nat := 0
  s3 : Nat := 0
  gust : Nat := 0
  deriving DecidableEq, Repr

/-- The Wind Monitor (R119, R122, R123). -/
structure Wind where
  c0 : WindChannel := {}
  c1 : WindChannel := {}
  gust : Nat := 0
  parkRun : Nat := 0
  critRun : Nat := 0
  hold : Nat := 0
  deriving DecidableEq, Repr

/-- The LINE filter (R127): the disagree count, the sample last taken (high reads true) and whether the first sample
after a full reset is still to come. -/
structure LineFilter where
  disagree : Nat := 0
  lastHigh : Bool := true
  strapDue : Bool := true
  deriving DecidableEq, Repr

/-- A hazard record (R124) but for its clearing mode and zone map, which are configuration items (R132). -/
structure HazardRec where
  cause : Option Sev := none
  latched : Bool := false
  level : Option Sev := none
  ackPending : Bool := false
  rearm : Bool := false
  deriving DecidableEq, Repr

/-- The four hazard records (R124). -/
structure Hazards where
  wind : HazardRec := {}
  plant : HazardRec := {}
  tracker : HazardRec := {}
  line : HazardRec := {}
  deriving DecidableEq, Repr

/-- The states of a zone (R135). -/
inductive ZoneState where
  | clear | securing | secured
  deriving DecidableEq, Repr

/-- A zone record (R135). -/
structure ZoneRec where
  level : Option Sev := none
  state : ZoneState := .clear
  deriving DecidableEq, Repr

/-! ### Yield accounting (R157, R164, R168) -/

/-- A coefficient set (R164). -/
structure CoeffSet where
  kTrack : Vector Nat 96
  kAlt : Vector Nat 96
  w : Nat
  eMin : Nat
  dueOn : Nat
  dueOff : Nat
  loadEvery : Nat
  deriving DecidableEq, Repr

/-- One row of the account store (R157, R167, R168). -/
structure Account where
  eExp : Nat := 0
  eMeas : Nat := 0
  surplus : Nat := 0
  soil : Nat := 0
  clean : Nat := 0
  stow : Nat := 0
  intervals : Nat := 0
  cleans : Nat := 0
  lastRecovery : Nat := 0
  sl : Nat := 0
  frozen : Bool := false
  deriving DecidableEq, Repr

/-- The retained account store with its interval number and its retention marker (R168). -/
structure Store where
  rows : Vector Account 96
  interval : BitVec 32
  markerValid : Bool
  deriving DecidableEq, Repr

/-! ### Configuration (R183 to R189) -/

/-- One entry of a priority and mask table (R178). -/
structure NoticeClass where
  priority : Nat
  masked : Bool
  deriving DecidableEq, Repr

/-- A value for every configuration item (section 11.6). -/
structure Settings where
  rows : Nat
  rowZone : Vector Nat 96
  installed : Set8
  crossing : Int
  crossTol : Nat
  breachTol : Nat
  trackerSilence : Nat
  approach : Nat
  guard : Nat
  census : Nat
  windows : Vector Window 12
  linkT : Bool
  linkF : Bool
  silence : Nat
  recovery : Nat
  transferTime : Nat
  tUpper : Nat
  tLower : Nat
  battMin : Nat
  anem0 : Bool
  anem1 : Bool
  cal0 : Nat
  cal1 : Nat
  windRel : Nat
  windPark : Nat
  windCrit : Nat
  windHold : Nat
  windMode : ClearMode
  plantMode : ClearMode
  trackerMode : ClearMode
  lineMode : ClearMode
  windMap : Set8
  plantMap : Set8
  trackerMap : Set8
  lineMap : Set8
  lineLevel : Sev
  review : Nat
  forced : Nat
  classT : Vector NoticeClass 20
  classF : Vector NoticeClass 20
  classP : Vector NoticeClass 20
  linkRate : LinkRate
  deriving DecidableEq, Repr

/-- What a save writes: the snapshot of the shadow and of the active coefficient set (R189). -/
structure Snapshot where
  shadow : Settings
  coeffs : CoeffSet
  deriving DecidableEq, Repr

/-- A save under way: its snapshot and its timer (R189). -/
structure Save where
  snapshot : Snapshot
  timer : Nat
  deriving DecidableEq, Repr

/-- The writes of a save (R188). -/
inductive SaveWrite where
  | headerOnes | items | coefficients | crc | header
  deriving DecidableEq, Repr

/-- What the part's own writing has left in the serial memory (R188, R189): nothing written yet, a save cut short or
failed after its first `made` writes, or the image of a completed save. -/
inductive ImageLeft where
  | unwritten
  | cut (made : Nat)
  | valid (s : Snapshot)
  deriving DecidableEq, Repr

/-- The window that R53 gives as default for numbers 1..11. -/
def Window.off : Window :=
  { enabled := false, base := 0, limit := 0, links := ⟨false, false, false⟩, rights := ⟨false, false, false, false⟩ }

/-- The default of window 0 (R53). -/
def Window.all : Window :=
  { enabled := true, base := 0, limit := 95, links := ⟨true, true, true⟩, rights := ⟨true, true, true, true⟩ }

/-- The default priorities, by notice code less one (R178). -/
def NoticeClass.defaults : Vector NoticeClass 20 :=
  (#v[1, 1, 1, 0, 0, 0, 0, 0, 1, 1, 1, 2, 2, 2, 2, 3, 3, 3, 3, 3] : Vector Nat 20).map (fun p => ⟨p, false⟩)

/-- The defaults of section 11.6. -/
def Settings.defaults : Settings where
  rows := 96
  rowZone := Vector.ofFn (fun r => r.val % 8)
  installed := 0xFF
  crossing := 0
  crossTol := 20
  breachTol := 50
  trackerSilence := 60
  approach := 120
  guard := 10
  census := 60
  windows := (Vector.replicate 12 Window.off).set 0 Window.all
  linkT := true
  linkF := true
  silence := 30
  recovery := 2
  transferTime := 600
  tUpper := 4
  tLower := 2
  battMin := 25
  anem0 := true
  anem1 := true
  cal0 := 765
  cal1 := 765
  windRel := 100
  windPark := 140
  windCrit := 200
  windHold := 600
  windMode := .auto
  plantMode := .auto
  trackerMode := .auto
  lineMode := .ackGone
  windMap := 0xFF
  plantMap := 0xFF
  trackerMap := 0xFF
  lineMap := 0xFF
  lineLevel := .critical
  review := 60
  forced := 180
  classT := NoticeClass.defaults
  classF := NoticeClass.defaults
  classP := NoticeClass.defaults
  linkRate := .b19200

/-- The defaults of R164. -/
def CoeffSet.defaults : CoeffSet where
  kTrack := Vector.replicate 96 0
  kAlt := Vector.replicate 96 0
  w := 4
  eMin := 200
  dueOn := 40
  dueOff := 20
  loadEvery := 1

/-- The cleared store of R168. -/
def Store.cleared : Store where
  rows := Vector.replicate 96 {}
  interval := 0
  markerValid := true

/-! ### Notices (R178) -/

/-- The reasons of ENTRY_FAILED (section 2.8). -/
inductive FailReason where
  | trackerTimeout | parking | intrusion | robotGone | notBoarded | withdrawn
  deriving DecidableEq, Repr

/-- The events of ROBOT_STATE with the causes of a loss (R72). -/
inductive RobotEvent where
  | lostSilence | lostDisplaced | recovered | released | fault
  deriving DecidableEq, Repr

/-- The operations CONFIG_STATE reports on (R184, R189). -/
inductive ConfigOp where
  | load | save
  deriving DecidableEq, Repr

/-- The outcomes CONFIG_STATE reports (R184, R189). -/
inductive ConfigOutcome where
  | absent | invalid | valid | done | failed
  deriving DecidableEq, Repr

/-- A notice with its contents (section 10.4). -/
inductive Notice where
  | permit (row : Nat) (permit : Permit) (forced breach : Bool)
  | entryGrant (row robot : Nat) (origin : Origin)
  | entryFailed (row robot : Nat) (origin : Origin) (reason : FailReason)
  | holdBreach (row : Nat) (angle : Option Int) (state : TrackerState) (onset : Bool)
  | intrusion (row robot : Nat) (before : Permit)
  | forcedStow (row zone : Nat) (robots : List (Nat × RobotState))
  | hazard (h : Hazard) (record : HazardRec) (mode : ClearMode) (map : Set8)
  | zoneState (zone : Nat) (state : ZoneState) (level : Option Sev) (hazards : List Hazard)
  | robotOrder (robot : Nat) (order : Order) (row : Option Nat)
  | transferGrant (t : TransferBody)
  | transferEnd (t : TransferBody) (outcome : TransferOutcome)
  | robotState (robot : Nat) (event : RobotEvent) (state : RobotState) (row : Option Nat) (onPanelsAtLoss : Bool)
  | roundState (k : Nat) (state : SlotState) (endReason : Option EndReason) (kind : Option RoundKind)
      (robot : Option Nat) (link : Option Link) (current : Option (Nat × RowPhase)) (cleaned skipped : Nat)
      (remaining : Option Nat) (pausePending : Bool)
  | carriageState (state : CarriageState) (position passenger activeRobot : Option Nat) (depth : Nat) (throttle : Bool)
  | trackerSilent (row : Nat) (silent : Bool)
  | settled (interval : BitVec 32) (settled missing : Nat) (load : Bool)
  | dueChange (row sl : Nat) (joined : Bool)
  | accountFrozen (row : Nat) (interval : BitVec 32)
  | accountsLost
  | configState (op : ConfigOp) (outcome : ConfigOutcome)
  deriving DecidableEq, Repr

/-- A queued notice with the priority it was admitted with (R178, R179). Its age is its place in the queue. -/
structure Queued where
  priority : Nat
  notice : Notice
  deriving DecidableEq, Repr

/-! ### Replies (section 10.2) -/

/-- The result codes (section 4.3, R174). -/
inductive Result where
  | done | accepted | granted | clamped
  | badRow | badRobot | notMapped | denied | portDisabled | busy | full | state | parking | invalid
  | malformed | unknownType | notReady
  deriving DecidableEq, Repr

/-- One row in SUMMARY form (R16). -/
structure RowSummary where
  permit : Permit
  tracker : TrackerState
  forced : Bool
  breach : Bool
  silent : Bool
  occupied : Bool
  pending : Bool
  inWindow : Bool
  deriving DecidableEq, Repr

/-- One row in DETAIL form (R17). -/
structure RowDetail where
  row : Nat
  zone : Nat
  permit : Permit
  forced : Bool
  breach : Bool
  silent : Bool
  tracker : TrackerState
  angle : Option Int
  age : Option Nat
  pending : Option Nat
  occupant : Option Nat
  stationOccupant : Option Nat
  inbound : Option Nat
  claim : Option Nat
  deriving DecidableEq, Repr

/-- One zone of ZONE QUERY (R152). -/
structure ZoneEntry where
  zone : ZoneRec
  hazards : List Hazard
  presentRows : Nat
  rowsNotStow : Nat
  unanchored : Nat
  carriageHolds : Bool
  deriving DecidableEq, Repr

/-- One hazard of HAZARD QUERY: every field of R124. -/
structure HazardEntry where
  record : HazardRec
  mode : ClearMode
  map : Set8
  deriving DecidableEq, Repr

/-- One slot of ROUND QUERY (R118): the record of R94, the next index of a SPAN round alone, the remaining count absent for
a DUE round, the skip set as the map of 12 bytes. -/
structure SlotEntry where
  state : SlotState
  endReason : Option EndReason
  spec : Option RoundSpec
  robot : Option Nat
  link : Option Link
  nextIndex : Option Nat
  skipMap : List Byte
  current : Option (Nat × RowPhase)
  cleaned : Nat
  skipped : Nat
  remaining : Option Nat
  pausePending : Bool
  deriving DecidableEq, Repr

/-- The fields of a reply after its result code; a reply to a refused request has none (R174). -/
inductive ReplyFields where
  | none
  | status (phase : PartPhase) (saving : Bool) (runEntries : BitVec 8) (rows : Nat) (enabled : LinkSet)
      (queued drops frameErrors overruns : Nat)
  | notice (n : Option Notice) (remaining : Nat)
  | summaries (first count : Nat) (entries : List RowSummary)
  | details (first count : Nat) (entries : List RowDetail)
  | robots (entries : List (Bool × Robot))
  | carriage (record : Carriage) (depth : Nat)
  | rounds (slots : List SlotEntry)
  | zones (entries : List ZoneEntry) (timers : List (Nat × Nat × Nat)) (parkOut : Bool)
  | hazards (entries : List HazardEntry) (review : Option Nat) (wind : Wind) (lastHigh : Bool) (disagree : Nat)
  | tracker (applied badRow notMapped denied clamped : Nat)
  | robot (state : RobotState) (recoveryCount : Nat)
  | arrival (n : BitVec 16)
  | hazardRecord (cause : Option Sev) (latched : Bool) (level : Option Sev)
  | ackRecord (latched : Bool) (level cause : Option Sev) (ackPending : Bool)
  | windowTest (enabled : Bool) (window : Option Nat) (rights : RightSet)
  | settlement (interval : BitVec 32) (settled missing ignored frozen : Nat) (load : Bool)
  | coeffs (commit : Bool) (loadCounter : Nat) (w eMin dueOn dueOff loadEvery : Nat) (rows : List (Nat × Nat))
  | account (account : Account) (latch : Mode) (mixed due : Bool) (place : Option Nat) (kTrack kAlt : Nat)
      (interval : BitVec 32)
  | item (i : Item)
  deriving DecidableEq, Repr

/-- A reply (R174). -/
structure Reply where
  result : Result
  fields : ReplyFields
  deriving DecidableEq, Repr

/-- A reply frame (R174): its TYPE, its TAG (absent for a request given at request level, log entry 3) and its BODY. -/
structure ReplyFrame where
  type : Byte
  tag : Option Byte
  reply : Reply
  deriving DecidableEq, Repr

/-! ### The link ports (R173, R174) -/

/-- A port's receiver (R173): DATA holds LENGTH and the bytes so far, CRC the whole data and the first CRC byte. -/
inductive Receiver where
  | hunt
  | length
  | data (length : Byte) (got : List Byte)
  | crc (length : Byte) (got : List Byte) (first : Option Byte)
  deriving DecidableEq, Repr

/-- What a complete frame asks: the bytes of a received frame, or a request given at request level (log entry 3). -/
inductive FrameContent where
  | raw (type tag : Byte) (body : List Byte)
  | request (q : Request)
  deriving DecidableEq, Repr

/-- A frame in one of a port's two places; `taken` is false while it waits for the load to end (R184). -/
structure Frame where
  content : FrameContent
  taken : Bool
  deriving DecidableEq, Repr

/-- A link port (R173, R174, R177, R179, R181): receiver, the frame in service and the waiting frame, the reply last
built, the notice queue oldest first, the three counters and the ATTN line. -/
structure Port where
  receiver : Receiver := .hunt
  inService : Option Frame := none
  waiting : Option Frame := none
  reply : Option ReplyFrame := none
  queue : List Queued := []
  drops : Nat := 0
  frameErrors : Nat := 0
  overruns : Nat := 0
  attn : Bool := false
  deriving DecidableEq, Repr

/-- The Link Interface Unit's ports. Its tables and enables are configuration items (R47, R178). -/
structure Liu where
  t : Port := {}
  f : Port := {}
  p : Port := {}
  deriving DecidableEq, Repr

/-! ### The part -/

/-- VBAT (R168): whether it is present, and the model's own count of the power-ups, at which it may have come back (log
entry 12). -/
structure Vbat where
  present : Bool := true
  powerUps : Nat := 0
  deriving DecidableEq, Repr

/-- All of the part but the ports. `cfg` is what the blocks use, `shadow` the Configuration Loader's copy (R186). `ticked` is
the model's own: an expiry has come before the wind evaluation of its seconds tick, so the seconds of that tick are already
counted (log entry 6). -/
structure Core where
  phase : PartPhase
  runEntries : BitVec 8
  parkOut : Bool
  cfg : Settings
  shadow : Settings
  census : Option Nat
  rows : Vector RowRec 96
  robots : Vector Robot 8
  carriage : Carriage
  slots : Vector Slot 4
  wind : Wind
  line : LineFilter
  hazards : Hazards
  review : Option Nat
  ticked : Bool
  zones : Vector ZoneRec 8
  store : Store
  accountsLost : Bool
  vbat : Vbat
  coActive : CoeffSet
  coPending : CoeffSet
  commit : Bool
  loadCounter : Nat
  save : Option Save
  image : ImageLeft
  deriving DecidableEq, Repr

/-- The RC-96. -/
structure Part where
  liu : Liu
  core : Core
  deriving DecidableEq, Repr

/-- The machine: the part and the commands that wait, the oldest first (log entry 4). -/
structure State where
  part : Part
  pending : List Instr
  deriving DecidableEq, Repr

/-- The reasons a step can stop with a fault: none. The spec gives every command an effect in every state, a refusal
in a reply being one (section 4.3). -/
inductive Fault
  deriving DecidableEq, Repr

/-- The reasons a step can be refused. -/
inductive Refusal where
  /-- Raised by an arm of `exec` for a command without a meaning; no arm does. Safe. -/
  | notModelled (mnemonic : String)
  deriving DecidableEq, Repr

/-- The core as a full reset leaves it (R5, R20, R55, R74, R94, R119, R124, R127, R135, R164, R169, R177, R189) with
the account store `store` kept or cleared (R168), and with what a reset does not change: `vbat` and `image`. -/
def Core.atReset (store : Store) (accountsLost : Bool) (vbat : Vbat) (image : ImageLeft) : Core where
  phase := .inReset
  runEntries := 0
  parkOut := true
  cfg := Settings.defaults
  shadow := Settings.defaults
  census := none
  rows := store.rows.map (fun a => { due := decide (CoeffSet.defaults.dueOn ≤ a.sl) })
  robots := Vector.replicate 8 {}
  carriage := {}
  slots := Vector.replicate 4 {}
  wind := {}
  line := {}
  hazards := {}
  review := none
  ticked := false
  zones := Vector.replicate 8 {}
  store := store
  accountsLost := accountsLost
  vbat := vbat
  coActive := CoeffSet.defaults
  coPending := CoeffSet.defaults
  commit := false
  loadCounter := 0
  save := none
  image := image

/-- The part in its first full reset: RESET_N low, the retention marker found not valid and VBAT present
(log entry 5). -/
def State.reset : State where
  part := { liu := {}, core := Core.atReset Store.cleared true {} .unwritten }
  pending := []

end Sys2Proof.Machine
end

