-- ==== Sys2Proof/Config.lean ====
section
/-! DEFINITION. What the spec fixes by number, and what it leaves open: the layouts and codes that it does not give, the pace
of a save and the return of VBAT (opaque constants), and the bound of the model on the hand-offs of one event. -/

namespace Sys2Proof.Config

open Sys2Proof.Machine

/-! ### Free values -/

/-- The events of ROBOT_STATE (R72). -/
inductive RobotEventName where
  | lost | recovered | released | fault
  deriving DecidableEq, Repr

/-- The causes of a loss (R72). -/
inductive LossCause where
  | silence | displaced
  deriving DecidableEq, Repr

/-- The triggers of a DUE round without their counts (R96). -/
inductive TriggerName where
  | dueCount | immediate
  deriving DecidableEq, Repr

/-- The forms of COEFF WRITE (R164). -/
inductive CoeffFormName where
  | rows | scalar
  deriving DecidableEq, Repr

/-- The one-byte fields of the request, notice and reply bodies whose codes the spec does not give (R175, R178). `flag` is a
field of two values of a notice kind, `truth` one of a request or a reply, `flags` a byte of flags in the order its rule
lists them; `item` names a configuration item, its index left at 0; `noCount`, `noBattery`, `noWindow` and `noOrder` are
absent values. -/
inductive Field where
  | permit (p : Permit)
  | trackerUnknown
  | robotState (s : RobotState)
  | failReason (r : FailReason)
  | level (l : Option Sev)
  | hazard (h : Hazard)
  | hazards (hs : List Hazard)
  | mode (m : ClearMode)
  | zones (m : Set8)
  | zoneState (s : ZoneState)
  | order (o : Order)
  | transferClass (c : TransferClass)
  | transferOutcome (o : TransferOutcome)
  | robotEvent (e : RobotEventName)
  | lossCause (c : Option LossCause)
  | slotState (s : SlotState)
  | endReason (r : Option EndReason)
  | roundKind (k : Option RoundKind)
  | link (l : Option Link)
  | phase (p : Option RowPhase)
  | carriageState (s : CarriageState)
  | configOp (o : ConfigOp)
  | configOutcome (o : ConfigOutcome)
  | flag (k : NoticeKind) (b : Bool)
  | truth (b : Bool)
  | flags (bs : List Bool)
  | place (p : Option Place)
  | queryForm (f : QueryForm)
  | direction (d : Option Direction)
  | trigger (t : Option TriggerName)
  | coeffForm (f : CoeffFormName)
  | coeffItem (i : CoeffItem)
  | coeffSet (s : CoeffSetName)
  | allRows
  | item (i : ItemRef)
  | linkRate (r : LinkRate)
  | links (l : LinkSet)
  | rights (r : RightSet)
  | robots (m : Set8)
  | partState (p : PartPhase)
  | saveState (saving : Bool)
  | latch (m : Mode)
  | noClass
  | noCount
  | noBattery
  | noWindow
  | noOrder
  deriving DecidableEq, Repr

/-- The code of such a field: DESIGN CHOICE, log entry 28. -/
opaque code : Field → Byte

/-- The optional fields of two bytes for whose kind R172 gives no absent value. -/
inductive WordField where
  | position | seconds
  deriving DecidableEq, Repr

/-- Their absent values: DESIGN CHOICE, log entry 28. -/
opaque absentWord : WordField → BitVec 16

/-- The two bytes of a row in SUMMARY form (R16), whose bits the spec does not place: DESIGN CHOICE, log entry 28. -/
opaque summary : RowSummary → BitVec 16

/-- The format code of the part, which the header of an image must carry (R183) and the spec does not give: DESIGN CHOICE,
log entry 13. -/
opaque formatCode : Nat

/-- How many writes after the first a save has made so many seconds after its start (R188), which the spec does not give:
DESIGN CHOICE, log entry 34. -/
opaque savePace : Nat → Nat

/-- VBAT, once lost, is back at the power-up of that number. No command tells of its return: DESIGN CHOICE, log entry 12. -/
opaque vbatBack : Nat → Bool

/-! ### Numbers -/

/-- How many hand-offs deep one hand-off of an event can lead at most (DESIGN CHOICE, log entry 2). -/
def handoffDepth : Nat := 10000

/-- A notice queue holds at most sixteen notices (R179). -/
def noticeQueueSize : Nat := 16

/-- The transfer queue holds at most eight entries (R76). -/
def transferQueueSize : Nat := 8

/-- The save timer: 10 seconds (R189). -/
def saveSeconds : Nat := 10

/-- The longest configuration image: 2048 bytes (R183). -/
def imageBytes : Nat := 2048

end Sys2Proof.Config
end

