-- ==== Sys2Proof/Machine/Ops.lean ====
section
/-! DEFINITION. The named operations on the state: reading and changing one record of a table, the derived fields that
the spec gives (presence, zones, occupancy, station occupant, due list), and the event under way with its hand-offs and
its notices. -/

namespace Sys2Proof.Machine

/-! ### Tables -/

/-- The row record `r` (R1). -/
def Core.row (c : Core) (r : Nat) : RowRec := look c.rows {} r

/-- The core with row record `r` changed. -/
def Core.modRow (c : Core) (r : Nat) (f : RowRec → RowRec) : Core := { c with rows := upd c.rows r f }

/-- The robot record `i` (R54). -/
def Core.robot (c : Core) (i : Nat) : Robot := look c.robots {} i

/-- The core with robot record `i` changed. -/
def Core.modRobot (c : Core) (i : Nat) (f : Robot → Robot) : Core := { c with robots := upd c.robots i f }

/-- The round slot `k` (R94). -/
def Core.slot (c : Core) (k : Nat) : Slot := look c.slots {} k

/-- The core with slot `k` changed. -/
def Core.modSlot (c : Core) (k : Nat) (f : Slot → Slot) : Core := { c with slots := upd c.slots k f }

/-- The zone record `z` (R135). -/
def Core.zone (c : Core) (z : Nat) : ZoneRec := look c.zones {} z

/-- The core with zone record `z` changed. -/
def Core.modZone (c : Core) (z : Nat) (f : ZoneRec → ZoneRec) : Core := { c with zones := upd c.zones z f }

/-- The account of row `r` (R168). -/
def Core.account (c : Core) (r : Nat) : Account := look c.store.rows {} r

/-- The core with the account of row `r` changed. -/
def Core.modAccount (c : Core) (r : Nat) (f : Account → Account) : Core :=
  { c with store := { c.store with rows := upd c.store.rows r f } }

/-- The core with the carriage changed. -/
def Core.modCarriage (c : Core) (f : Carriage → Carriage) : Core := { c with carriage := f c.carriage }

/-- The record of hazard `h` (R124). -/
def Core.hazard (c : Core) : Hazard → HazardRec
  | .wind => c.hazards.wind
  | .plant => c.hazards.plant
  | .tracker => c.hazards.tracker
  | .line => c.hazards.line

/-- The core with the record of hazard `h` replaced. -/
def Core.setHazard (c : Core) (h : Hazard) (x : HazardRec) : Core :=
  { c with hazards := match h with
      | .wind => { c.hazards with wind := x }
      | .plant => { c.hazards with plant := x }
      | .tracker => { c.hazards with tracker := x }
      | .line => { c.hazards with line := x } }

/-- The hazards in the order the manual lists them (R124). -/
def Hazard.all : List Hazard := [.wind, .plant, .tracker, .line]

/-- The clearing mode in force (R132). -/
def Settings.mode (s : Settings) : Hazard → ClearMode
  | .wind => s.windMode
  | .plant => s.plantMode
  | .tracker => s.trackerMode
  | .line => s.lineMode

/-- The zone map in force (R132). -/
def Settings.map (s : Settings) : Hazard → Set8
  | .wind => s.windMap
  | .plant => s.plantMap
  | .tracker => s.trackerMap
  | .line => s.lineMap

/-- The port of a link. -/
def Liu.port (u : Liu) : Link → Port
  | .T => u.t
  | .F => u.f
  | .P => u.p

/-- The unit with the port of a link changed. -/
def Liu.modPort (u : Liu) (l : Link) (f : Port → Port) : Liu :=
  match l with
  | .T => { u with t := f u.t }
  | .F => { u with f := f u.f }
  | .P => { u with p := f u.p }

/-- The part with the port of a link changed. -/
def Part.modPort (p : Part) (l : Link) (f : Port → Port) : Part := { p with liu := p.liu.modPort l f }

/-- The requests-enabled flag of a link; the P-link's is set at all times (R47). -/
def Settings.enabled (s : Settings) : Link → Bool
  | .T => s.linkT
  | .F => s.linkF
  | .P => true

/-- The priority and mask table of a link (R178). -/
def Settings.classes (s : Settings) : Link → Vector NoticeClass 20
  | .T => s.classT
  | .F => s.classF
  | .P => s.classP

/-! ### Derived fields -/

/-- Row `r` is present (R1). -/
def Core.present (c : Core) (r : Nat) : Bool := decide (r < c.cfg.rows)

/-- The present rows in ascending order (R1). -/
def Core.presentRows (c : Core) : List Nat := (List.range 96).filter c.present

/-- The zone of row `r` (R3). -/
def Core.zoneOf (c : Core) (r : Nat) : Nat := look c.cfg.rowZone 0 r

/-- The present rows of zone `z` in ascending order. -/
def Core.zoneRows (c : Core) (z : Nat) : List Nat := c.presentRows.filter (fun r => c.zoneOf r == z)

/-- The zones in ascending order. -/
def zoneNumbers : List Nat := List.range 8

/-- The robots in ascending order. -/
def robotNumbers : List Nat := List.range 8

/-- The slots in ascending order. -/
def slotNumbers : List Nat := List.range 4

/-- Zone `z` is CLEAR (R135). -/
def Core.zoneClear (c : Core) (z : Nat) : Bool := (c.zone z).state == .clear

/-- The zone of row `r` is CLEAR. -/
def Core.rowClear (c : Core) (r : Nat) : Bool := c.zoneClear (c.zoneOf r)

/-- Robot `i` is installed (R55). -/
def Core.installed (c : Core) (i : Nat) : Bool := decide (i < 8) && c.cfg.installed.getLsbD i

/-- The row on whose panels a robot is recorded (R4). -/
def Robot.panelRow (x : Robot) : Option Nat :=
  match x.state with
  | .cleaning | .returning | .anchored | .stranded => x.row
  | .lost => if x.onPanelsAtLoss then x.row else none
  | .unseen | .parked | .onCarriage => none

/-- The station a robot is recorded at (R2). -/
def Robot.station (x : Robot) : Option Nat := if x.state = .parked then x.row else none

/-- The occupancy of row `r` in ascending robot number (R4). -/
def Core.occupancy (c : Core) (r : Nat) : List Nat :=
  robotNumbers.filter (fun i => (c.robot i).panelRow == some r)

/-- The occupant of row `r` (R4). -/
def Core.occupant (c : Core) (r : Nat) : Option Nat := (c.occupancy r).head?

/-- The station occupant of row `r` (R2). -/
def Core.stationOccupant (c : Core) (r : Nat) : Option Nat :=
  robotNumbers.find? (fun i => (c.robot i).station == some r)

/-- Robot `i` is ANCHORED. -/
def Core.anchored (c : Core) (i : Nat) : Bool := (c.robot i).state == .anchored

/-- The robots of row `r`'s occupancy that are not ANCHORED. -/
def Core.unanchored (c : Core) (r : Nat) : List Nat := (c.occupancy r).filter (fun i => !c.anchored i)

/-- The row of a robot's place for a round: its row field (R99 step 4). -/
def Core.robotZone (c : Core) (i : Nat) : Option Nat := (c.robot i).row.map c.zoneOf

/-- Every zone of the list is CLEAR. -/
def Core.zonesClear (c : Core) (zs : List Nat) : Bool := zs.all c.zoneClear

/-- The zone robot `i` belongs to for the Park Controller (R138). -/
def Core.belongs (c : Core) (i : Nat) : Option Nat :=
  match (c.robot i).station with
  | some r => some (c.zoneOf r)
  | none => (c.robot i).panelRow.map c.zoneOf

/-- The latched hazards whose map holds zone `z` (R135). -/
def Core.zoneHazards (c : Core) (z : Nat) : List Hazard :=
  Hazard.all.filter (fun h => (c.hazard h).latched && (c.cfg.map h).getLsbD z)

/-- The place of a level in the order none < PARK < CRITICAL (R124). -/
def rank : Option Sev → Nat
  | none => 0
  | some .park => 1
  | some .critical => 2

/-- The higher of two levels. -/
def maxLevel (a b : Option Sev) : Option Sev := if rank a < rank b then b else a

/-- The level that the latched hazards give zone `z` (R135). -/
def Core.zoneLevel (c : Core) (z : Nat) : Option Sev :=
  (c.zoneHazards z).foldl (fun l h => maxLevel l (c.hazard h).level) none

/-- Robot `i` is in a queue entry or is the robot of the active transfer (R23, R77). -/
def Carriage.carries (k : Carriage) (i : Nat) : Bool :=
  k.queue.any (fun t => t.robot == i) || k.active.any (fun t => t.robot == i)

/-- A row stands before another in the due list: SL descending, then row ascending (R161). -/
def dueBefore (sl : Nat → Nat) (a b : Nat) : Bool := decide (sl b < sl a) || (sl a == sl b && decide (a ≤ b))

/-- A row put at its place in a due list. -/
def dueInsert (sl : Nat → Nat) (r : Nat) : List Nat → List Nat
  | [] => [r]
  | x :: xs => if dueBefore sl r x then r :: x :: xs else x :: dueInsert sl r xs

/-- Rows put in the order of the due list. -/
def dueSort (sl : Nat → Nat) : List Nat → List Nat
  | [] => []
  | r :: rs => dueInsert sl r (dueSort sl rs)

/-- The due list: the present rows whose due flag is set, in its order (R161). -/
def Core.dueList (c : Core) : List Nat :=
  dueSort (fun r => (c.account r).sl) (c.presentRows.filter (fun r => (c.row r).due))

/-! ### The event under way -/

/-- What one block hands another within an event (section 4.5), with the pieces of a block's own work that come after
the effects of an earlier piece. -/
inductive Handoff where
  /-- robot stopped being the occupant of the row's station (R30) -/
  | stationLeft (row robot : Nat)
  | panelsEmptied (row : Nat)
  | panelsEntered (row robot : Nat)
  | anchorSet (row : Nat)
  | anchorReleased (row robot : Nat)
  | permitZoneParked (zone : Nat)
  | permitZoneCleared (zone : Nat)
  /-- the robot's new place reaches the Carriage Arbiter (R82 to R84) -/
  | carriagePlace (robot : Nat)
  /-- the station of `row` is taken by `robot` (R85) -/
  | stationTaken (row robot : Nat)
  | carriageLost (robot : Nat)
  | carriageZoneParked (zone : Nat)
  | carriageZoneCleared (zone : Nat)
  /-- the robot's new place reaches the Round Engine (R103 to R107) -/
  | roundPlace (robot : Nat)
  | roundLost (robot : Nat)
  | roundPass (robot row : Nat)
  | entryGranted (slot row : Nat)
  | entryFailed (slot row : Nat)
  | permitChanged (row : Nat)
  | transferEnd (slot robot row : Nat) (outcome : TransferOutcome)
  | serviceEnd (robot : Nat)
  | throttleCleared
  | roundZoneParked (zone : Nat)
  | roundZoneCleared (zone : Nat)
  | dueChanged
  | censusEnded
  /-- the slot makes a row choice (R99) -/
  | chooseRow (slot : Nat)
  /-- the slot makes the SEEKING test (R103) -/
  | seekingTest (slot : Nat)
  /-- the triggers of the ARMED slots are evaluated (R98) -/
  | evalTriggers
  | evalTrigger (slot : Nat)
  | resumeTest (slot : Nat)
  /-- the YAU credits a pass (R167) -/
  | passCredit (row : Nat)
  /-- the zone evaluation of one zone (R136); `setChanged`: the set of hazards mapping it has changed -/
  | evalZone (zone : Nat) (setChanged : Bool)
  /-- the standing orders of an onset or an escalation (R141, R143) -/
  | zoneOrders (zone : Nat)
  /-- the RESUME orders of a release (R149) -/
  | zoneResume (zone : Nat)
  /-- steps 1, 2 and 4 of the zone test (R138) -/
  | zoneTest (zone : Nat)
  /-- step 4 of the zone test (R144) -/
  | zoneTestState (zone : Nat)
  | announceZone (zone : Nat)
  | announceHazard (h : Hazard)
  | announce (ns : List Notice)
  deriving DecidableEq, Repr

/-- The hand-offs of the Fleet Table to the Permit Controller and the Carriage Arbiter, and those of a zone that parks. They
are all delivered before the Round Engine hears of what follows from them (R57, R113, R141). -/
@[reducible] def Handoff.settles : Handoff → Bool
  | .stationLeft _ _ | .panelsEmptied _ | .panelsEntered _ _ | .anchorSet _ | .anchorReleased _ _ | .carriagePlace _
  | .stationTaken _ _ | .carriageLost _ | .permitZoneParked _ | .carriageZoneParked _ | .roundZoneParked _ => true
  | .permitZoneCleared _ | .carriageZoneCleared _ | .roundPlace _ | .roundLost _ | .roundPass _ _ | .entryGranted _ _
  | .entryFailed _ _ | .permitChanged _ | .transferEnd _ _ _ _ | .serviceEnd _ | .throttleCleared | .roundZoneCleared _
  | .dueChanged | .censusEnded | .chooseRow _ | .seekingTest _ | .evalTriggers | .evalTrigger _ | .resumeTest _
  | .passCredit _ | .evalZone _ _ | .zoneOrders _ | .zoneResume _ | .zoneTest _ | .zoneTestState _ | .announceZone _
  | .announceHazard _ | .announce _ => false

/-- A notice handed to the LIU within an event. Those whose rule has them show their subject as the event leaves it
(R19, R117, R133, R151) are written out at the end of the event. -/
inductive Announcement where
  | note (n : Notice)
  | permit (row : Nat)
  | roundState (slot : Nat)
  | zoneState (zone : Nat)
  | hazard (h : Hazard)
  deriving DecidableEq, Repr

/-- An event under way: the core as it stands, the hand-offs still to deliver (first first) and the notices handed to
the LIU so far (first first). -/
structure Ev where
  core : Core
  work : List Handoff
  out : List Announcement
  deriving DecidableEq, Repr

/-- An event that has done nothing yet. -/
def Ev.start (c : Core) : Ev := { core := c, work := [], out := [] }

/-- The event with its core changed. -/
def Ev.mod (e : Ev) (f : Core → Core) : Ev := { e with core := f e.core }

/-- The event with row record `r` changed. -/
def Ev.modRow (e : Ev) (r : Nat) (f : RowRec → RowRec) : Ev := e.mod (fun c => c.modRow r f)

/-- The event with robot record `i` changed. -/
def Ev.modRobot (e : Ev) (i : Nat) (f : Robot → Robot) : Ev := e.mod (fun c => c.modRobot i f)

/-- The event with slot `k` changed. -/
def Ev.modSlot (e : Ev) (k : Nat) (f : Slot → Slot) : Ev := e.mod (fun c => c.modSlot k f)

/-- The event with the carriage changed. -/
def Ev.modCarriage (e : Ev) (f : Carriage → Carriage) : Ev := e.mod (fun c => c.modCarriage f)

/-- The event with a hand-off to deliver after those it already has. -/
def Ev.hand (e : Ev) (h : Handoff) : Ev := { e with work := e.work ++ [h] }

/-- The event with hand-offs to deliver after those it already has. -/
def Ev.handAll (e : Ev) (hs : List Handoff) : Ev := { e with work := e.work ++ hs }

/-- The hand-off only has the LIU queue a notice. -/
def Handoff.announces : Handoff → Bool
  | .announceZone _ | .announceHazard _ | .announce _ => true
  | _ => false

/-- The event with hand-offs to deliver after those it already has, but before the notices it already has to hand over. -/
def Ev.handFirst (e : Ev) (hs : List Handoff) : Ev :=
  { e with work := e.work.filter (fun h => !h.announces) ++ hs ++ e.work.filter Handoff.announces }

/-- The event with an announcement handed to the LIU. -/
def Ev.tell (e : Ev) (a : Announcement) : Ev := { e with out := e.out ++ [a] }

/-- The event with a notice of fixed contents handed to the LIU. -/
def Ev.note (e : Ev) (n : Notice) : Ev := e.tell (.note n)

/-- The event with an announcement that its rule makes once for an event (R117, R151). -/
def Ev.tellOnce (e : Ev) (a : Announcement) : Ev := if a ∈ e.out then e else e.tell a

/-- The event after `f` has been applied for each element in order. -/
def Ev.each {α : Type} (e : Ev) (xs : List α) (f : α → Ev → Ev) : Ev := xs.foldl (fun e x => f x e) e

/-- The event with an order issued to robot `i` (R71): the last order with its row, the return flag, ROBOT_ORDER. -/
def Ev.order (e : Ev) (i : Nat) (o : Order) (row : Option Nat) : Ev :=
  (e.modRobot i (fun x => { x with
      lastOrder := some (o, row)
      returnFlag := match o with
        | .ret => true
        | .goRow | .anchor => false
        | .holdAtStation | .resume => x.returnFlag })).note (.robotOrder i o row)

/-- The event with an order issued to robot `i` with its recorded row (R71). -/
def Ev.orderHere (e : Ev) (i : Nat) (o : Order) : Ev := e.order i o (e.core.robot i).row

end Sys2Proof.Machine
end

