-- ==== Sys2Proof/Machine/Flags.lean ====
section
/-! DEFINITION. Flags and conditions computed from the state: the hold window and the breach angle (R14), the mode of a
row and its mixed flag (R162), the kind of a round (R94), the carriage condition (R139), PARK_OUT (R137), the ATTN lines (R181);
the seconds of a tick and the expiry of a timer (section 4.2). -/

namespace Sys2Proof.Machine

/-! ### The seconds tick (section 4.2, R11) -/

/-- A timer whose seconds have all passed: it can expire (section 4.2, log entry 6). -/
def expired (t : Option Nat) : Bool := t == some 0

/-- A timer one second later. Its expiry is an event of its own (log entry 6). -/
def tick (t : Option Nat) : Option Nat := t.map (· - 1)

/-- The report age one second later (R11). -/
def ageAfter (a : Option Nat) : Option Nat := a.map (fun n => min 65535 (n + 1))

/-- The seconds of a row record one second later. -/
def RowRec.second (x : RowRec) : RowRec :=
  { x with
    age := ageAfter x.age
    silence := tick x.silence
    approach := tick x.approach
    guard := tick x.guard
    boarding := tick x.boarding
    forcedTimer := tick x.forcedTimer }

/-- The seconds of a robot record one second later. -/
def Robot.second (x : Robot) : Robot := { x with silence := tick x.silence }

/-- The report ages and the seconds remaining of every running timer one second later. -/
def Core.second (c : Core) : Core :=
  { c with
    census := tick c.census
    rows := c.rows.map RowRec.second
    robots := c.robots.map Robot.second
    carriage := { c.carriage with timer := tick c.carriage.timer }
    review := tick c.review
    save := c.save.map (fun x => { x with timer := x.timer - 1 }) }

/-- The core at a seconds tick, its seconds counted once: by the first event of the tick, an expiry or the wind evaluation,
and not again before the wind evaluation has been made (log entry 6). -/
def Core.counted (c : Core) : Core := if c.ticked then c else { c.second with ticked := true }

/-- The expiry of a timer, `f` being what it does where its other condition is met. A timer that has run down expires at once.
One that has a second left expires at the seconds tick that is due, before the wind evaluation of that tick, and the seconds
of the tick are counted with it. Any other has time left, and nothing happens (section 4.2, log entry 6). -/
def Core.atExpiry (c : Core) (timer : Core → Option Nat) (met : Bool) (f : Core → Ev) : Ev :=
  let now := if expired (timer c) then c else c.counted
  if met && expired (timer now) then f now else Ev.start c

/-! ### Conditions -/

/-- The kind of a slot's round (R94). -/
def Slot.kind (s : Slot) : Option RoundKind :=
  s.spec.map fun
    | .span _ _ _ => .span
    | .due _ _ _ => .due

/-- The distance of an angle from CROSSING (R14). -/
def Settings.offCrossing (s : Settings) (angle : Int) : Nat := (angle - s.crossing).natAbs

/-- The angle of row `r` is inside the hold window (R14); an absent angle is not. -/
def Core.inWindow (c : Core) (r : Nat) : Bool :=
  match (c.row r).angle with
  | none => false
  | some a => decide (c.cfg.offCrossing a ≤ c.cfg.crossTol)

/-- The angle of row `r` is a breach angle (R14); an absent angle is not. -/
def Core.breachAngle (c : Core) (r : Nat) : Bool :=
  match (c.row r).angle with
  | none => false
  | some a => decide (c.cfg.breachTol < c.cfg.offCrossing a)

/-- The condition of R25: inside the hold window, with the tracker HOLDING or in FAULT. -/
def Core.held (c : Core) (r : Nat) : Bool :=
  c.inWindow r && ((c.row r).tracker == .holding || (c.row r).tracker == .fault)

/-- The current mode of a row (R162). -/
def RowRec.mode (x : RowRec) : Mode :=
  if x.permit = .stow ∨ x.tracker = .stowing ∨ x.tracker = .stowed then .stowed
  else if x.permit = .still ∨ x.permit = .holdReq ∨ x.permit = .guardIn ∨ x.permit = .entry ∨ x.permit = .guardOut
      ∨ x.tracker = .holding then .held
  else .tracking

/-- The comparison of R162: a mode that differs from the latch sets the mixed flag. -/
def RowRec.compareMode (x : RowRec) : RowRec := { x with mixed := x.mixed || decide (x.mode ≠ x.latch) }

/-- The census is in progress (R21). -/
def Core.inCensus (c : Core) : Bool := c.census.isSome

/-- The carriage condition of R139: its position is no row of zone `z`, or it is SECURED. -/
def Core.carriageHolds (c : Core) (z : Nat) : Bool :=
  c.carriage.state == .secured || c.carriage.position.all (fun r => c.zoneOf r != z)

/-- The carriage's position is a row whose zone is not CLEAR (R90). -/
def Core.carriageParking (c : Core) : Bool := c.carriage.position.any (fun r => !c.rowClear r)

/-- The LINK's rights of a window (R41). -/
def LinkSet.has (s : LinkSet) : Link → Bool
  | .T => s.t
  | .F => s.f
  | .P => s.p

/-- The rights of a window (R41). -/
def RightSet.has (s : RightSet) : Right → Bool
  | .report => s.report
  | .entry => s.entry
  | .round => s.round
  | .transfer => s.transfer

/-- PARK_OUT is asserted: the part is not in RUN, or a zone is not CLEAR (R137, R184). -/
def Core.parkOutAsserted (c : Core) : Bool :=
  decide (c.phase ≠ .run) || zoneNumbers.any (fun z => !c.zoneClear z)

/-- The ports with their ATTN lines following their queues (R181). -/
def Port.driveAttn (p : Port) : Port := { p with attn := !p.queue.isEmpty }

/-- The part with PARK_OUT and the ATTN lines following the state (R137, R181). -/
def Part.drivePins (p : Part) : Part :=
  { liu := { t := p.liu.t.driveAttn, f := p.liu.f.driveAttn, p := p.liu.p.driveAttn }
    core := { p.core with parkOut := p.core.parkOutAsserted } }

end Sys2Proof.Machine
end

