-- ==== Sys2Proof/Machine/Operands.lean ====
section
/-! DEFINITION. The operand forms of the requests: the form test of a body (MALFORMED, R175), the row and count ranges
of the queries, the ranges of configuration and coefficient items, and reading and writing an item. -/

namespace Sys2Proof.Machine

/-! ### The form of a body -/

/-- A tracker state that an entry can report (R6). -/
def reportable : Coded TrackerState → Bool
  | none => false
  | some .unknown => false
  | some _ => true

/-- The kind is routed to the link (R178). -/
def routedTo : NoticeKind → Link → Bool
  | .permit, l => l == .T
  | .entryGrant, l | .entryFailed, l | .robotOrder, l | .transferGrant, l | .transferEnd, l => l == .F
  | .holdBreach, _ | .intrusion, _ | .forcedStow, _ | .hazard, _ | .zoneState, _ => true
  | .robotState, l | .roundState, l | .carriageState, l => l == .F || l == .P
  | .trackerSilent, l | .settled, l | .dueChange, l | .accountFrozen, l | .accountsLost, l | .configState, l => l == .P

/-- An item code, index or value code that CONFIG WRITE does not accept (R186, R132, R178). A row of ROW_ZONE below 96 is
accepted whether it is present or not (DESIGN CHOICE, log entry 41). -/
def Item.malformed : Item → Bool
  | .unknown => true
  | .rowZone row _ => decide (96 ≤ row)
  | .window n _ => decide (12 ≤ n)
  | .anemEnable _ v => v.isNone
  | .mode _ v => v.isNone
  | .lineLevel v => v.isNone
  | .linkRate v => v.isNone
  | .noticeClass l k _ _ => !k.any (fun k => routedTo k l)
  | .num _ _ | .installed _ | .linkEnable _ _ | .map _ _ => false

/-- An item code or index that CONFIG READ does not accept (R186); for ROW_ZONE as in CONFIG WRITE (DESIGN CHOICE, log entry
41). -/
def ItemRef.malformed : ItemRef → Bool
  | .unknown => true
  | .rowZone row => decide (96 ≤ row)
  | .window n => decide (12 ≤ n)
  | .noticeClass l k => !k.any (fun k => routedTo k l)
  | .num _ | .installed | .linkEnable | .anemEnable _ | .mode _ | .map _ | .lineLevel | .linkRate => false

/-- A body that does not fit its request type, as the request's rule states (R175): R6, R16, R52, R56, R96, R109, R125,
R131, R153, R164, R165, R186. -/
def Request.malformed : Request → Bool
  | .permitQuery _ _ form => form.isNone
  | .trackerReport count entries =>
      count == 0 || decide (60 < count) || entries.length != count || entries.any (fun e => !reportable e.state)
  | .robotReport _ place _ _ _ => place.isNone
  | .roundStart slot _ spec => decide (3 < slot) || spec.isNone
  | .roundPause slot | .roundResume slot | .roundAbort slot => decide (3 < slot)
  | .parkOrder level => level.isNone
  | .hazardAck h => h.isNone
  | .windowTest link _ => link.isNone
  | .intervalReport _ _ count energies => count == 0 || decide (96 < count) || energies.length != count
  | .coeffWrite form =>
      match form with
      | none => true
      | some (.rows _ count values) => count == 0 || decide (24 < count) || values.length != count
      | some (.scalar _ _) => false
  | .coeffRead set _ count => set.isNone || count == 0 || decide (24 < count)
  | .configWrite item => Item.malformed item
  | .configRead item => ItemRef.malformed item
  | .status | .fetchNotice | .robotQuery _ _ | .carriageQuery | .roundQuery | .zoneQuery | .hazardQuery
  | .stowAll | .stowAllEnd | .entryRequest _ _ | .passComplete _ _ | .carriageReport _ | .transferRequest _ _
  | .parkRelease | .lostRelease _ | .carriageClear | .coeffCommit | .coeffRevoke | .accountRead _
  | .accountClear _ | .configApply | .configSave | .restart => false

/-! ### Ranges -/

/-- A count of rows brought into range for a first row: 0 becomes 1, then the form's limit, then the last present row
(R16). -/
def queryCount (limit rows first count : Nat) : Nat := min (min (max count 1) limit) (rows - first)

/-- DONE, or CLAMPED when a number was brought into range (section 4.3). -/
def doneOr (clamped : Bool) : Result := if clamped then .clamped else .done

/-- The tracker angle that an entry gives: absent for −32768, else within −900..+900 (R8). -/
def reportedAngle (a : Int) : Option Int := if a = -32768 then none else some (clampInt (-900) 900 a)

/-- The entry's angle is clamped (R8). -/
def angleClamped (a : Int) : Bool := reportedAngle a != none && reportedAngle a != some a

/-- The lower and upper limit of an item (section 11.6). FORCED is 0 or 10..900 (R147). -/
def NumItem.range : NumItem → Int × Int
  | .rows => (1, 96)
  | .crossing => (-300, 300)
  | .crossTol => (5, 100)
  | .breachTol => (0, 200)
  | .trackerSilence => (10, 600)
  | .approach => (10, 600)
  | .guard => (2, 120)
  | .census => (10, 600)
  | .silence => (5, 300)
  | .recovery => (1, 3)
  | .transferTime => (30, 1800)
  | .tUpper => (1, 8)
  | .tLower => (1, 7)
  | .battMin => (0, 100)
  | .cal0 | .cal1 => (1, 5000)
  | .windRel | .windPark | .windCrit => (1, 999)
  | .windHold => (60, 3600)
  | .review => (10, 600)
  | .forced => (0, 900)

/-- A value brought to the nearest limit of its item (R186); a FORCED of 1..9 becomes 10 (R147). -/
def NumItem.clamp (i : NumItem) (v : Int) : Int :=
  if i = .forced ∧ 1 ≤ v ∧ v ≤ 9 then 10 else clampInt (NumItem.range i).1 (NumItem.range i).2 v

/-- An item with its numbers brought into range (R186, R42, R178, R3). -/
def Item.clamp : Item → Item
  | .num i v => .num i (NumItem.clamp i v)
  | .rowZone row v => .rowZone row (clampNat 0 7 v)
  | .window n w => .window n { w with base := clampNat 0 95 w.base, limit := clampNat 0 95 w.limit }
  | .noticeClass l k priority masked => .noticeClass l k (clampNat 0 3 priority) masked
  | .installed s => .installed s
  | .linkEnable t f => .linkEnable t f
  | .anemEnable c v => .anemEnable c v
  | .mode h v => .mode h v
  | .map h v => .map h v
  | .lineLevel v => .lineLevel v
  | .linkRate v => .linkRate v
  | .unknown => .unknown

/-- The index of a notice kind in a table: its code less one (R178). -/
def NoticeKind.index : NoticeKind → Nat
  | .permit => 0 | .entryGrant => 1 | .entryFailed => 2 | .holdBreach => 3 | .intrusion => 4 | .forcedStow => 5
  | .hazard => 6 | .zoneState => 7 | .robotOrder => 8 | .transferGrant => 9 | .transferEnd => 10 | .robotState => 11
  | .roundState => 12 | .carriageState => 13 | .trackerSilent => 14 | .settled => 15 | .dueChange => 16
  | .accountFrozen => 17 | .accountsLost => 18 | .configState => 19

/-! ### Reading and writing an item -/

/-- The value of a numeric item. -/
def Settings.num (s : Settings) : NumItem → Int
  | .rows => s.rows
  | .crossing => s.crossing
  | .crossTol => s.crossTol
  | .breachTol => s.breachTol
  | .trackerSilence => s.trackerSilence
  | .approach => s.approach
  | .guard => s.guard
  | .census => s.census
  | .silence => s.silence
  | .recovery => s.recovery
  | .transferTime => s.transferTime
  | .tUpper => s.tUpper
  | .tLower => s.tLower
  | .battMin => s.battMin
  | .cal0 => s.cal0
  | .cal1 => s.cal1
  | .windRel => s.windRel
  | .windPark => s.windPark
  | .windCrit => s.windCrit
  | .windHold => s.windHold
  | .review => s.review
  | .forced => s.forced

/-- The settings with a numeric item given a value within its range. -/
def Settings.setNum (s : Settings) (i : NumItem) (v : Int) : Settings :=
  match i with
  | .rows => { s with rows := v.toNat }
  | .crossing => { s with crossing := v }
  | .crossTol => { s with crossTol := v.toNat }
  | .breachTol => { s with breachTol := v.toNat }
  | .trackerSilence => { s with trackerSilence := v.toNat }
  | .approach => { s with approach := v.toNat }
  | .guard => { s with guard := v.toNat }
  | .census => { s with census := v.toNat }
  | .silence => { s with silence := v.toNat }
  | .recovery => { s with recovery := v.toNat }
  | .transferTime => { s with transferTime := v.toNat }
  | .tUpper => { s with tUpper := v.toNat }
  | .tLower => { s with tLower := v.toNat }
  | .battMin => { s with battMin := v.toNat }
  | .cal0 => { s with cal0 := v.toNat }
  | .cal1 => { s with cal1 := v.toNat }
  | .windRel => { s with windRel := v.toNat }
  | .windPark => { s with windPark := v.toNat }
  | .windCrit => { s with windCrit := v.toNat }
  | .windHold => { s with windHold := v.toNat }
  | .review => { s with review := v.toNat }
  | .forced => { s with forced := v.toNat }

/-- The settings with a clearing mode. -/
def Settings.setMode (s : Settings) (h : Hazard) (m : ClearMode) : Settings :=
  match h with
  | .wind => { s with windMode := m }
  | .plant => { s with plantMode := m }
  | .tracker => { s with trackerMode := m }
  | .line => { s with lineMode := m }

/-- The settings with a zone map. -/
def Settings.setMap (s : Settings) (h : Hazard) (m : Set8) : Settings :=
  match h with
  | .wind => { s with windMap := m }
  | .plant => { s with plantMap := m }
  | .tracker => { s with trackerMap := m }
  | .line => { s with lineMap := m }

/-- The settings with one entry of a priority and mask table. -/
def Settings.setClass (s : Settings) (l : Link) (k : NoticeKind) (x : NoticeClass) : Settings :=
  match l with
  | .T => { s with classT := upd s.classT (NoticeKind.index k) (fun _ => x) }
  | .F => { s with classF := upd s.classF (NoticeKind.index k) (fun _ => x) }
  | .P => { s with classP := upd s.classP (NoticeKind.index k) (fun _ => x) }

/-- The settings with an item set: the item is in range and not malformed. -/
def Settings.set (s : Settings) : Item → Settings
  | .num i v => s.setNum i v
  | .rowZone row v => { s with rowZone := upd s.rowZone row (fun _ => v) }
  | .installed robots => { s with installed := robots }
  | .window n w => { s with windows := upd s.windows n (fun _ => w) }
  | .linkEnable t f => { s with linkT := t, linkF := f }
  | .anemEnable .anem0 (some v) => { s with anem0 := v }
  | .anemEnable .anem1 (some v) => { s with anem1 := v }
  | .mode h (some m) => s.setMode h m
  | .map h m => s.setMap h m
  | .lineLevel (some v) => { s with lineLevel := v }
  | .noticeClass l (some k) priority masked => s.setClass l k ⟨priority, masked⟩
  | .linkRate (some v) => { s with linkRate := v }
  | .anemEnable _ none | .mode _ none | .lineLevel none | .noticeClass _ none _ _ | .linkRate none | .unknown => s

/-- The value of an item as CONFIG READ returns it (R186). -/
def Settings.get (s : Settings) : ItemRef → Item
  | .num i => .num i (s.num i)
  | .rowZone row => .rowZone row (look s.rowZone 0 row)
  | .installed => .installed s.installed
  | .window n => .window n (look s.windows Window.off n)
  | .linkEnable => .linkEnable s.linkT s.linkF
  | .anemEnable .anem0 => .anemEnable .anem0 (some s.anem0)
  | .anemEnable .anem1 => .anemEnable .anem1 (some s.anem1)
  | .mode h => .mode h (some (s.mode h))
  | .map h => .map h (s.map h)
  | .lineLevel => .lineLevel (some s.lineLevel)
  | .noticeClass l (some k) =>
      let x := look (s.classes l) ⟨0, false⟩ (NoticeKind.index k)
      .noticeClass l (some k) x.priority x.masked
  | .noticeClass l none => .noticeClass l none 0 false
  | .linkRate => .linkRate (some s.linkRate)
  | .unknown => .unknown

/-- The orderings between configuration values hold (R184): tolerances, wind thresholds, throttle limits, windows. -/
def Settings.ordered (s : Settings) : Bool :=
  decide (s.crossTol ≤ s.breachTol) && decide (s.windRel < s.windPark) && decide (s.windPark < s.windCrit)
    && decide (s.tLower < s.tUpper) && s.windows.all (fun w => decide (w.base ≤ w.limit))

/-- Writing an item would break an ordering that it takes part in (R15, R42, R79, R121, R186). -/
def Settings.breaksOrder (s : Settings) (i : Item) : Bool :=
  let s' := s.set i
  match i with
  | .num .crossTol _ | .num .breachTol _ => decide (s'.breachTol < s'.crossTol)
  | .num .windRel _ | .num .windPark _ | .num .windCrit _ =>
      !(decide (s'.windRel < s'.windPark) && decide (s'.windPark < s'.windCrit))
  | .num .tUpper _ | .num .tLower _ => decide (s'.tUpper ≤ s'.tLower)
  | .window _ w => decide (w.limit < w.base)
  | _ => false

/-- A geometry item: refused STATE in RUN (R186). -/
def Item.geometry : Item → Bool
  | .num .rows _ | .rowZone _ _ | .installed _ => true
  | _ => false

/-- An item whose write acts at once in CONFIG_WAIT too: windows, LINK_ENABLE, NOTICE_CLASS (R185). -/
def Item.immediate : Item → Bool
  | .window _ _ | .linkEnable _ _ | .noticeClass _ _ _ _ => true
  | _ => false

/-! ### Coefficient items (R164) -/

/-- A scalar coefficient item brought into its range. -/
def CoeffItem.clamp (i : CoeffItem) (v : Nat) : Nat :=
  match i with
  | .w => clampNat 1 16 v
  | .eMin => clampNat 1 65535 v
  | .dueOn => clampNat 1 1000 v
  | .dueOff => clampNat 0 1000 v
  | .loadEvery => clampNat 1 16 v

/-- The set with a scalar item given a value. -/
def CoeffSet.setScalar (s : CoeffSet) (i : CoeffItem) (v : Nat) : CoeffSet :=
  match i with
  | .w => { s with w := v }
  | .eMin => { s with eMin := v }
  | .dueOn => { s with dueOn := v }
  | .dueOff => { s with dueOff := v }
  | .loadEvery => { s with loadEvery := v }

/-- The set with K_TRACK and K_ALT of consecutive rows from `first` written. -/
def CoeffSet.setRows (s : CoeffSet) (first : Nat) : List (Nat × Nat) → CoeffSet
  | [] => s
  | v :: vs =>
      CoeffSet.setRows { s with kTrack := upd s.kTrack first (fun _ => v.1), kAlt := upd s.kAlt first (fun _ => v.2) }
        (first + 1) vs

/-- K_TRACK of row `r`. -/
def CoeffSet.track (s : CoeffSet) (r : Nat) : Nat := look s.kTrack 0 r

/-- K_ALT of row `r`. -/
def CoeffSet.alt (s : CoeffSet) (r : Nat) : Nat := look s.kAlt 0 r

end Sys2Proof.Machine
end

