-- ==== Sys2Proof/Machine/Liu.lean ====
section
/-! DEFINITION. The Link Interface Unit's notice queues (R178 to R181) and its own requests: FETCH NOTICE, STATUS. -/

namespace Sys2Proof.Machine

/-! ### Notices -/

/-- The kind of a notice (R178). -/
def Notice.kind : Notice → NoticeKind
  | .permit .. => .permit
  | .entryGrant .. => .entryGrant
  | .entryFailed .. => .entryFailed
  | .holdBreach .. => .holdBreach
  | .intrusion .. => .intrusion
  | .forcedStow .. => .forcedStow
  | .hazard .. => .hazard
  | .zoneState .. => .zoneState
  | .robotOrder .. => .robotOrder
  | .transferGrant .. => .transferGrant
  | .transferEnd .. => .transferEnd
  | .robotState .. => .robotState
  | .roundState .. => .roundState
  | .carriageState .. => .carriageState
  | .trackerSilent .. => .trackerSilent
  | .settled .. => .settled
  | .dueChange .. => .dueChange
  | .accountFrozen .. => .accountFrozen
  | .accountsLost => .accountsLost
  | .configState .. => .configState

/-- The place of a hazard in R124's order. -/
def Hazard.index : Hazard → Nat
  | .wind => 0
  | .plant => 1
  | .tracker => 2
  | .line => 3

/-- The subject of a state-type notice with its kind (R178); nothing for the other notices. Every CARRIAGE_STATE has the
same subject. -/
def Notice.subject : Notice → Option (NoticeKind × Nat)
  | .permit row .. => some (.permit, row)
  | .hazard h .. => some (.hazard, Hazard.index h)
  | .zoneState zone .. => some (.zoneState, zone)
  | .robotOrder robot .. => some (.robotOrder, robot)
  | .roundState k .. => some (.roundState, k)
  | .carriageState .. => some (.carriageState, 0)
  | .entryGrant .. | .entryFailed .. | .holdBreach .. | .intrusion .. | .forcedStow .. | .transferGrant ..
  | .transferEnd .. | .robotState .. | .trackerSilent .. | .settled .. | .dueChange .. | .accountFrozen ..
  | .accountsLost | .configState .. => none

/-- The notice that an announcement makes, its subject as it stands (R19, R117, R133, R151). -/
def Core.render (c : Core) : Announcement → Notice
  | .note n => n
  | .permit r => .permit r (c.row r).permit (c.row r).forced (c.row r).breach
  | .roundState k =>
      let s := c.slot k
      .roundState k s.state s.endReason s.kind s.robot s.link s.current s.cleaned s.skipped
        (if s.kind = some .span then some s.remaining else none)
        s.pausePending
  | .zoneState z => .zoneState z (c.zone z).state (c.zone z).level (c.zoneHazards z)
  | .hazard h => .hazard h (c.hazard h) (c.cfg.mode h) (c.cfg.map h)

/-! ### Admission (R179) -/

/-- A queued notice is replaced by `n`: state-type, of the same kind and subject. -/
def Queued.replacedBy (x : Queued) (n : Notice) : Bool := n.subject.isSome && x.notice.subject == n.subject

/-- The least urgent level held in a queue: the highest priority number. -/
def leastUrgent (q : List Queued) : Nat := q.foldl (fun m x => max m x.priority) 0

/-- The queue without the newest entry of a level. -/
def dropNewest (level : Nat) : List Queued → List Queued
  | [] => []
  | x :: xs =>
      if x.priority = level && !(xs.any (fun y => y.priority == level)) then xs else x :: dropNewest level xs

/-- The drop count with one more (R179). -/
def countDrop (n : Nat) : Nat := min 255 (n + 1)

/-- A notice admitted to a link's queue or not (R179), with the entry of its kind in the link's table. -/
def Port.enqueue (p : Port) (k : NoticeClass) (n : Notice) : Port :=
  if k.masked then p
  else if p.queue.any (fun x => x.replacedBy n) then
    { p with queue := p.queue.map (fun x => if x.replacedBy n then ⟨k.priority, n⟩ else x) }
  else if p.queue.length < Config.noticeQueueSize then { p with queue := p.queue ++ [⟨k.priority, n⟩] }
  else if k.priority < leastUrgent p.queue then
    { p with queue := dropNewest (leastUrgent p.queue) p.queue ++ [⟨k.priority, n⟩], drops := countDrop p.drops }
  else { p with drops := countDrop p.drops }

/-- The entry of a kind in a link's table. -/
def Settings.class (s : Settings) (l : Link) (k : NoticeKind) : NoticeClass :=
  look (s.classes l) ⟨0, false⟩ (NoticeKind.index k)

/-- A notice handed to the queue of one link if its kind is routed there (R178). -/
def Liu.handTo (u : Liu) (s : Settings) (n : Notice) (l : Link) : Liu :=
  if routedTo n.kind l then u.modPort l (fun p => p.enqueue (s.class l n.kind) n) else u

/-- A notice handed to every link its kind is routed to (R178, R179). -/
def Liu.deliver (u : Liu) (s : Settings) (n : Notice) : Liu :=
  ((u.handTo s n .T).handTo s n .F).handTo s n .P

/-- The announcements of an event handed to the queues in order (R179). -/
def Liu.flush (u : Liu) (c : Core) (out : List Announcement) : Liu :=
  out.foldl (fun u a => u.deliver c.cfg (c.render a)) u

/-! ### FETCH NOTICE (R180) -/

/-- The most urgent priority held in a queue: the lowest number. -/
def mostUrgent : List Queued → Nat
  | [] => 0
  | [x] => x.priority
  | x :: y :: xs => min x.priority (mostUrgent (y :: xs))

/-- The queue without the oldest entry of a level. -/
def dropOldest (level : Nat) (q : List Queued) : List Queued := q.eraseP (fun x => x.priority == level)

/-- The entry that a fetch returns: the oldest of the most urgent priority. -/
def fetched (q : List Queued) : Option Queued := q.find? (fun x => x.priority == mostUrgent q)

/-- FETCH NOTICE on a port (R180). -/
def Port.fetch (p : Port) : Reply × Port :=
  let rest := dropOldest (mostUrgent p.queue) p.queue
  ({ result := .done, fields := .notice ((fetched p.queue).map (·.notice)) rest.length }, { p with queue := rest })

/-! ### STATUS (R177) -/

/-- The STATUS reply on a port. ROWS is the value in force. -/
def Core.status (c : Core) (p : Port) : Reply :=
  { result := .done
    fields := .status c.phase c.save.isSome c.runEntries c.cfg.rows ⟨c.cfg.linkT, c.cfg.linkF, true⟩ p.queue.length
      p.drops p.frameErrors p.overruns }

/-- The three counters of a port set to 0 (R177, R190). -/
def Port.clearCounters (p : Port) : Port := { p with drops := 0, frameErrors := 0, overruns := 0 }

end Sys2Proof.Machine
end

