-- ==== Sys2Proof/Machine/Wire.lean ====
section
/-! DEFINITION. Notices and replies as bytes (R172, R174, R178, R180): the fields in the order of their tables and rules, in
one, two or four bytes, with the codes that the spec gives and those of `Config.code` (log entry 28). -/

namespace Sys2Proof.Machine

/-! ### Codes (R174, R176, R178, R180) -/

/-- The one-byte code of a result (R174). -/
def Result.code : Result → Byte
  | .done => 0x00 | .accepted => 0x01 | .granted => 0x02 | .clamped => 0x03
  | .badRow => 0x10 | .badRobot => 0x11 | .notMapped => 0x12 | .denied => 0x13 | .portDisabled => 0x14
  | .busy => 0x15 | .full => 0x16 | .state => 0x17 | .parking => 0x18 | .invalid => 0x19
  | .malformed => 0x1A | .unknownType => 0x1B | .notReady => 0x1C

/-- The code of a notice kind (R178). -/
def NoticeKind.code (k : NoticeKind) : Byte := byteOf (NoticeKind.index k + 1)

/-- The kind code at the head of a FETCH NOTICE reply: 0x00 for an empty queue (R180). -/
def fetchedCode : Option Notice → Byte
  | none => 0x00
  | some n => NoticeKind.code n.kind

/-- The origin of an entry (R178). -/
def Origin.code : Origin → Byte
  | .slot k => byteOf k
  | .fleet => 0x10
  | .recovery => 0x11

/-- The code of a tracker state: that of R176, which gives none for UNKNOWN. -/
def trackerCode : TrackerState → Byte
  | .tracking => 0x01
  | .holding => 0x02
  | .stowing => 0x03
  | .stowed => 0x04
  | .fault => 0x05
  | .unknown => Config.code .trackerUnknown

/-- The event of ROBOT_STATE (R72). -/
def RobotEvent.name : RobotEvent → Config.RobotEventName
  | .lostSilence | .lostDisplaced => .lost
  | .recovered => .recovered
  | .released => .released
  | .fault => .fault

/-- The cause of a loss (R72). -/
def RobotEvent.cause : RobotEvent → Option Config.LossCause
  | .lostSilence => some .silence
  | .lostDisplaced => some .displaced
  | .recovered | .released | .fault => none

/-- A count, or an absent one. -/
def countByte (n : Option Nat) : Byte :=
  match n with
  | some n => byteOf n
  | none => Config.code .noCount

/-! ### Notice bodies (R178) -/

/-- The fields of TRANSFER_GRANT, with which TRANSFER_END begins (R178). -/
def TransferBody.bytes (t : TransferBody) : List Byte :=
  [byteOf t.robot, byteOf t.source, byteOf t.dest, Config.code (.transferClass t.cls), optByte t.slot]
    ++ bytes16 t.arrival

/-- The body of a notice (R178). -/
def Notice.body : Notice → List Byte
  | .permit row p forced breach =>
      [byteOf row, Config.code (.permit p), Config.code (.flags [forced, breach])]
  | .entryGrant row robot origin => [byteOf row, byteOf robot, Origin.code origin]
  | .entryFailed row robot origin reason =>
      [byteOf row, byteOf robot, Origin.code origin, Config.code (.failReason reason)]
  | .holdBreach row angle state onset =>
      byteOf row :: (angleBytes angle ++ [trackerCode state, Config.code (.flag .holdBreach onset)])
  | .intrusion row robot before => [byteOf row, byteOf robot, Config.code (.permit before)]
  | .forcedStow row zone robots =>
      [byteOf row, byteOf zone, byteOf robots.length]
        ++ robots.flatMap (fun x => [byteOf x.1, Config.code (.robotState x.2)])
  | .hazard h x mode map =>
      [Config.code (.hazard h), Config.code (.flag .hazard x.latched), Config.code (.level x.level),
        Config.code (.level x.cause), Config.code (.flags [x.ackPending, x.rearm]), Config.code (.mode mode),
        Config.code (.zones map)]
  | .zoneState zone state level hazards =>
      [byteOf zone, Config.code (.zoneState state), Config.code (.level level), Config.code (.hazards hazards)]
  | .robotOrder robot order row => [byteOf robot, Config.code (.order order), optByte row]
  | .transferGrant t => t.bytes
  | .transferEnd t outcome => t.bytes ++ [Config.code (.transferOutcome outcome)]
  | .robotState robot event state row onPanelsAtLoss =>
      [byteOf robot, Config.code (.robotEvent event.name), Config.code (.lossCause event.cause),
        Config.code (.robotState state), optByte row, Config.code (.flag .robotState onPanelsAtLoss)]
  | .roundState k state endReason kind robot link current cleaned skipped remaining pausePending =>
      [byteOf k, Config.code (.slotState state), Config.code (.endReason endReason), Config.code (.roundKind kind),
        optByte robot, Config.code (.link link), optByte (current.map (·.1)), Config.code (.phase (current.map (·.2))),
        byteOf cleaned, byteOf skipped, countByte remaining, Config.code (.flag .roundState pausePending)]
  | .carriageState state position passenger activeRobot depth throttle =>
      [Config.code (.carriageState state), optByte position, optByte passenger, optByte activeRobot, byteOf depth,
        Config.code (.flag .carriageState throttle)]
  | .trackerSilent row silent => [byteOf row, Config.code (.flag .trackerSilent silent)]
  | .settled interval rows missing load =>
      bytes32 interval ++ [byteOf rows, byteOf missing, Config.code (.flag .settled load)]
  | .dueChange row sl joined =>
      byteOf row :: (bytes16 (BitVec.ofNat 16 sl) ++ [Config.code (.flag .dueChange joined)])
  | .accountFrozen row interval => byteOf row :: bytes32 interval
  | .accountsLost => []
  | .configState op outcome => [Config.code (.configOp op), Config.code (.configOutcome outcome)]

/-! ### Fields of the replies -/

/-- A truth value. -/
def truthByte (b : Bool) : Byte := Config.code (.truth b)

/-- A two-byte number. -/
def word (n : Nat) : List Byte := bytes16 (BitVec.ofNat 16 n)

/-- A four-byte number. -/
def word32 (n : Nat) : List Byte := bytes32 (BitVec.ofNat 32 n)

/-- An optional number of two bytes that has an absent value of its own. -/
def optWord (f : Config.WordField) (n : Option Nat) : List Byte :=
  match n with
  | some n => word n
  | none => bytes16 (Config.absentWord f)

/-- One row of PERMIT QUERY in DETAIL form, the fields in the order of R17 (DEDUCED, log entry 28). -/
def RowDetail.bytes (x : RowDetail) : List Byte :=
  [byteOf x.row, byteOf x.zone, Config.code (.permit x.permit), Config.code (.flags [x.forced, x.breach, x.silent]),
      trackerCode x.tracker]
    ++ angleBytes x.angle ++ presentBytes x.age
    ++ [optByte x.pending, optByte x.occupant, optByte x.stationOccupant, optByte x.inbound, optByte x.claim]

/-- A place that a robot's recovery reports name, with its row (R68). -/
def recoveryBytes (p : Option (Place × Option Nat)) : List Byte :=
  [Config.code (.place (p.map (·.1))), optByte (p.bind (·.2))]

/-- A robot's last order with its row (R71). -/
def lastOrderBytes (o : Option (Order × Option Nat)) : List Byte :=
  match o with
  | some (o, row) => [Config.code (.order o), optByte row]
  | none => [Config.code .noOrder, 0xFF]

/-- One robot of ROBOT QUERY, the fields in the order of R73 (DEDUCED, log entry 28). -/
def Robot.bytes (installed : Bool) (x : Robot) : List Byte :=
  [truthByte installed, Config.code (.robotState x.state), optByte x.row] ++ optWord .position x.position
    ++ [(x.battery.map byteOf).getD (Config.code .noBattery), optByte x.round, truthByte x.onPanelsAtLoss, byteOf x.recoveryCount]
    ++ recoveryBytes x.recoveryPlace ++ lastOrderBytes x.lastOrder ++ [truthByte x.returnFlag]
    ++ optWord .seconds x.silence

/-- The fields of a transfer before its arrival number, in the order of R76. -/
def Transfer.head (t : Transfer) : List Byte :=
  [byteOf t.robot, byteOf t.source, byteOf t.dest, Config.code (.transferClass t.cls), Config.code (.link (some t.link)),
    optByte t.slot]

/-- A queue entry with all its fields (R76, R93). -/
def Transfer.bytes (t : Transfer) : List Byte := t.head ++ bytes16 t.arrival

/-- The active transfer's fields, absent while there is none; the arrival number has a presence byte (R93, R172). -/
def activeBytes (t : Option Transfer) : List Byte :=
  match t with
  | some t => t.head ++ 1 :: bytes16 t.arrival
  | none => [0xFF, 0xFF, 0xFF, Config.code .noClass, Config.code (.link none), 0xFF, 0, 0, 0]

/-- The carriage record, the throttle, the depth, the next arrival number and the queue, in the order of R93 (DEDUCED, log
entry 28). -/
def Carriage.bytes (k : Carriage) (depth : Nat) : List Byte :=
  [Config.code (.carriageState k.state), optByte k.position, optByte k.passenger] ++ activeBytes k.active
    ++ optWord .seconds k.timer ++ [truthByte k.throttle, byteOf depth] ++ bytes16 k.nextArrival
    ++ k.queue.flatMap Transfer.bytes

/-- An optional zone mask (R94): any subset of the eight zones, so its range fills its byte and a presence byte stands before
it, with a value byte of 0 when it is absent (R172). -/
def zonesBytes (m : Option Set8) : List Byte :=
  match m with
  | some m => [1, Config.code (.zones m)]
  | none => [0, 0]

/-- The fields of R94 that a kind of round alone has: the start row, the initial count and the direction of a SPAN with its
next index; the zone mask, the row limit and the trigger of a DUE with its k. -/
def specBytes (s : Option RoundSpec) (next : Option Nat) : List Byte :=
  let noDue := zonesBytes none ++ [Config.code .noCount, Config.code (.trigger none), Config.code .noCount]
  match s with
  | some (.span start count dir) =>
      [byteOf start, byteOf count, Config.code (.direction (some dir)), countByte next] ++ noDue
  | some (.due mask limit trigger) =>
      [0xFF, Config.code .noCount, Config.code (.direction none), countByte next] ++ zonesBytes (some mask)
        ++ byteOf limit :: (match trigger with
          | .dueCount k => [Config.code (.trigger (some .dueCount)), byteOf k]
          | .immediate => [Config.code (.trigger (some .immediate)), Config.code .noCount])
  | none => [0xFF, Config.code .noCount, Config.code (.direction none), countByte next] ++ noDue

/-- One slot of ROUND QUERY, the fields in the order of R94 (DEDUCED, log entry 28). -/
def SlotEntry.bytes (x : SlotEntry) : List Byte :=
  let kind := x.spec.map (fun s => match s with
    | .span _ _ _ => RoundKind.span
    | .due _ _ _ => RoundKind.due)
  [Config.code (.slotState x.state), Config.code (.endReason x.endReason), Config.code (.roundKind kind),
      optByte x.robot, Config.code (.link x.link)]
    ++ specBytes x.spec x.nextIndex ++ x.skipMap
    ++ [optByte (x.current.map (·.1)), Config.code (.phase (x.current.map (·.2))), byteOf x.cleaned, byteOf x.skipped,
      countByte x.remaining, truthByte x.pausePending]

/-- One zone of ZONE QUERY, the fields in the order of R152 (DEDUCED, log entry 28). -/
def ZoneEntry.bytes (x : ZoneEntry) : List Byte :=
  [Config.code (.level x.zone.level), Config.code (.zoneState x.zone.state), Config.code (.hazards x.hazards),
    byteOf x.presentRows, byteOf x.rowsNotStow, byteOf x.unanchored, truthByte x.carriageHolds]

/-- One hazard of HAZARD QUERY, the fields in the order of R124 (DEDUCED, log entry 28). -/
def HazardEntry.bytes (x : HazardEntry) : List Byte :=
  [Config.code (.level x.record.cause), truthByte x.record.latched, Config.code (.level x.record.level),
    truthByte x.record.ackPending, truthByte x.record.rearm, Config.code (.mode x.mode), Config.code (.zones x.map)]

/-- One channel of HAZARD QUERY, the fields in the order of R134, the newest speed last. -/
def WindChannel.bytes (x : WindChannel) : List Byte :=
  truthByte x.enabled :: (word x.count ++ word x.s1 ++ word x.s2 ++ word x.s3 ++ word x.gust)

/-- The value of a configuration item (R186): a number in two bytes, a zone in one, a window's five fields. -/
def Item.valueBytes : Item → List Byte
  | .num _ v => bytes16 (BitVec.ofInt 16 v)
  | .rowZone _ v => [byteOf v]
  | .installed m => [Config.code (.robots m)]
  | .window _ w =>
      [truthByte w.enabled, byteOf w.base, byteOf w.limit, Config.code (.links w.links), Config.code (.rights w.rights)]
  | .linkEnable t f => [Config.code (.flags [t, f])]
  | .anemEnable _ v => [truthByte (v.getD false)]
  | .mode _ v => [Config.code (.mode (v.getD .auto))]
  | .map _ m => [Config.code (.zones m)]
  | .lineLevel v => [Config.code (.level v)]
  | .noticeClass _ _ priority masked => [byteOf priority, truthByte masked]
  | .linkRate v => [Config.code (.linkRate (v.getD .b19200))]
  | .unknown => []

/-- The account of a row, the fields in the order of R157 and R170 (DEDUCED, log entry 28). -/
def Account.bytes (a : Account) : List Byte :=
  word32 a.eExp ++ word32 a.eMeas ++ word32 a.surplus ++ word32 a.soil ++ word32 a.clean ++ word32 a.stow
    ++ word32 a.intervals ++ word a.cleans ++ word a.lastRecovery ++ word a.sl ++ [truthByte a.frozen]

/-! ### Replies (R174, R180) -/

/-- The fields of a reply after its result code, in the order in which the rule of its request lists them (DEDUCED, log
entry 28). -/
def ReplyFields.bytes : ReplyFields → List Byte
  | .none => []
  | .status phase saving runEntries rows enabled queued drops frameErrors overruns =>
      [Config.code (.partState phase), Config.code (.saveState saving), runEntries, byteOf rows,
          Config.code (.links enabled), byteOf queued, byteOf drops]
        ++ word frameErrors ++ word overruns
  | .notice n remaining => [fetchedCode n, byteOf remaining] ++ (n.map Notice.body).getD []
  | .summaries first count entries =>
      [byteOf first, byteOf count] ++ entries.flatMap (fun x => bytes16 (Config.summary x))
  | .details first count entries => [byteOf first, byteOf count] ++ entries.flatMap RowDetail.bytes
  | .robots entries => entries.flatMap (fun x => Robot.bytes x.1 x.2)
  | .carriage record depth => record.bytes depth
  | .rounds slots => slots.flatMap SlotEntry.bytes
  | .zones entries timers parkOut =>
      entries.flatMap ZoneEntry.bytes ++ byteOf timers.length
        :: timers.flatMap (fun x => [byteOf x.1, byteOf x.2.1] ++ word x.2.2)
        ++ [truthByte parkOut]
  | .hazards entries review wind lastHigh disagree =>
      entries.flatMap HazardEntry.bytes ++ optWord .seconds review ++ wind.c0.bytes ++ wind.c1.bytes ++ word wind.gust
        ++ [byteOf wind.parkRun, byteOf wind.critRun] ++ word wind.hold ++ [truthByte lastHigh, byteOf disagree]
  | .tracker applied badRow notMapped denied clamped =>
      [byteOf applied, byteOf badRow, byteOf notMapped, byteOf denied, byteOf clamped]
  | .robot state recoveryCount => [Config.code (.robotState state), byteOf recoveryCount]
  | .arrival n => bytes16 n
  | .hazardRecord cause latched level => [Config.code (.level cause), truthByte latched, Config.code (.level level)]
  | .ackRecord latched level cause ackPending =>
      [truthByte latched, Config.code (.level level), Config.code (.level cause), truthByte ackPending]
  | .windowTest enabled window rights =>
      [truthByte enabled, (window.map byteOf).getD (Config.code .noWindow), Config.code (.rights rights)]
  | .settlement interval settled missing ignored frozen load =>
      bytes32 interval ++ [byteOf settled, byteOf missing, byteOf ignored, byteOf frozen, truthByte load]
  | .coeffs commit loadCounter w eMin dueOn dueOff loadEvery rows =>
      [truthByte commit, byteOf loadCounter, byteOf w] ++ word eMin ++ word dueOn ++ word dueOff ++ [byteOf loadEvery]
        ++ rows.flatMap (fun x => word x.1 ++ word x.2)
  | .account a latch mixed due place kTrack kAlt interval =>
      a.bytes ++ [Config.code (.latch latch), truthByte mixed, truthByte due, countByte place] ++ word kTrack
        ++ word kAlt ++ bytes32 interval
  | .item i => Item.valueBytes i

/-- The BODY of a reply: the result code, then the fields (R174). -/
def Reply.body (r : Reply) : List Byte := Result.code r.result :: r.fields.bytes

/-- The bytes of a reply as they are sent (R172, R174); none for a request without a frame, which had no TAG (log
entry 3). -/
def ReplyFrame.bytes (r : ReplyFrame) : List Byte :=
  match r.tag with
  | some tag => frameBytes r.type tag r.reply.body
  | none => []

end Sys2Proof.Machine
end

