-- ==== Sys2Proof/Machine/Bodies.lean ====
section
/-! DEFINITION. Reading the BODY of a request (R172, R175, R176): the fields in the order in which the request's rule lists
them, the numbers least significant byte first, the codes that the spec gives and those of `Config.code` (log entry 1). -/

namespace Sys2Proof.Machine

/-! ### Fields -/

/-- A two-byte number from its bytes, the least significant first (R172). -/
def wordOf (lo hi : Byte) : Nat := (hi ++ lo).toNat

/-- A signed 16-bit number from its bytes, the least significant first (R172). -/
def signedOf (lo hi : Byte) : Int := (hi ++ lo).toInt

/-- An optional robot, row, slot, zone or station: 0xFF is absent (R172). -/
def optOf (b : Byte) : Option Nat := if b = 0xFF then none else some b.toNat

/-- The value whose code a byte is, of the values of a field; nothing for a code outside them (R175). -/
def readCode {α : Type} (values : List α) (field : α → Config.Field) (b : Byte) : Option α :=
  values.find? (fun x => Config.code (field x) == b)

/-- Two-byte numbers one after another. -/
def wordsOf : List Byte → List Nat
  | lo :: hi :: rest => wordOf lo hi :: wordsOf rest
  | _ => []

/-- Pairs of two-byte numbers one after another. -/
def pairsOf : List Byte → List (Nat × Nat)
  | a :: b :: c :: d :: rest => (wordOf a b, wordOf c d) :: pairsOf rest
  | _ => []

/-! ### The values of the coded fields -/

/-- The links. -/
def linkValues : List Link := [.T, .F, .P]

/-- The truth values. -/
def truthValues : List Bool := [false, true]

/-- The sets of eight. -/
def setValues : List Set8 := (List.range 256).map (BitVec.ofNat 8)

/-- The sets of links. -/
def linkSetValues : List LinkSet :=
  truthValues.flatMap fun t => truthValues.flatMap fun f => truthValues.map fun p => ⟨t, f, p⟩

/-- The sets of rights. -/
def rightSetValues : List RightSet :=
  truthValues.flatMap fun a => truthValues.flatMap fun b => truthValues.flatMap fun c => truthValues.map fun d => ⟨a, b, c, d⟩

/-- The places (R56). -/
def placeValues : List Place := [.atStation, .onPanels, .anchored, .onCarriage, .fault]

/-- The scalar coefficient items (R164). -/
def coeffValues : List CoeffItem := [.w, .eMin, .dueOn, .dueOff, .loadEvery]

/-- The rates (section 11.6). -/
def rateValues : List LinkRate := [.b9600, .b19200, .b38400, .b57600, .b115200]

/-- The notice kinds (R178). -/
def kindValues : List NoticeKind :=
  [.permit, .entryGrant, .entryFailed, .holdBreach, .intrusion, .forcedStow, .hazard, .zoneState, .robotOrder,
    .transferGrant, .transferEnd, .robotState, .roundState, .carriageState, .trackerSilent, .settled, .dueChange,
    .accountFrozen, .accountsLost, .configState]

/-- The configuration items, an index left at 0 (section 11.6). -/
def itemValues : List ItemRef :=
  ([.rows, .crossing, .crossTol, .breachTol, .trackerSilence, .approach, .guard, .census, .silence, .recovery,
      .transferTime, .tUpper, .tLower, .battMin, .cal0, .cal1, .windRel, .windPark, .windCrit, .windHold, .review,
      .forced].map ItemRef.num)
    ++ [.rowZone 0, .installed, .window 0, .linkEnable, .anemEnable .anem0, .anemEnable .anem1, .lineLevel,
      .noticeClass .T none, .linkRate]
    ++ Hazard.all.map ItemRef.mode ++ Hazard.all.map ItemRef.map

/-! ### TRACKER REPORT (R176) -/

/-- The tracker state of a code (R176). -/
def trackerStateOf (code : Byte) : Coded TrackerState :=
  match code.toNat with
  | 1 => some .tracking
  | 2 => some .holding
  | 3 => some .stowing
  | 4 => some .stowed
  | 5 => some .fault
  | _ => none

/-- The entries of a TRACKER REPORT body, four bytes each (R176). A frame says nothing of writes between their decodes. -/
def trackerEntries : List Byte → List TrackerEntry
  | row :: state :: lo :: hi :: rest => ⟨row.toNat, trackerStateOf state, signedOf lo hi, []⟩ :: trackerEntries rest
  | _ => []

/-- The body of TRACKER REPORT (R176): its length is 1 + 4 × count bytes. -/
def parseTracker : List Byte → Option Request
  | [] => none
  | count :: rest =>
      if rest.length = 4 * count.toNat then some (.trackerReport count.toNat (trackerEntries rest)) else none

/-! ### ROUND START (R96) -/

/-- The fields of a round after its kind and its robot (R96). The outer option: the body has not the length that the kind and
the trigger call for. -/
def readRound (kind : Coded RoundKind) (rest : List Byte) : Option (Coded RoundSpec) :=
  match kind, rest with
  | some .span, [start, count, dir] =>
      some ((readCode [.ascending, .descending] (fun d => .direction (some d)) dir).map (.span start.toNat count.toNat))
  | some .due, mask :: limit :: trigger :: rest =>
      match readCode setValues .zones mask, readCode [.dueCount, .immediate] (fun t => .trigger (some t)) trigger, rest with
      | some m, some .dueCount, [k] => some (some (.due m limit.toNat (.dueCount k.toNat)))
      | some m, some .immediate, [] => some (some (.due m limit.toNat .immediate))
      | _, _, _ => none
  | _, _ => none

/-! ### COEFF WRITE (R164) -/

/-- The fields of COEFF WRITE after its form (R164). -/
def readCoeffs (form : Coded Config.CoeffFormName) (rest : List Byte) : Option (Coded CoeffForm) :=
  match form, rest with
  | some .rows, first :: count :: values =>
      if values.length = 4 * count.toNat then some (some (.rows first.toNat count.toNat (pairsOf values))) else none
  | some .scalar, [item, lo, hi] => some ((readCode coeffValues .coeffItem item).map (.scalar · (wordOf lo hi)))
  | _, _ => none

/-! ### Configuration items (R186) -/

/-- An item code and the index of an indexed item, with the bytes after them (R186). A code outside its values gives the
unknown item. -/
def readRef : List Byte → Option (ItemRef × List Byte)
  | [] => none
  | code :: rest =>
      match readCode itemValues .item code, rest with
      | none, rest => some (.unknown, rest)
      | some (.rowZone _), row :: rest => some (.rowZone row.toNat, rest)
      | some (.window _), n :: rest => some (.window n.toNat, rest)
      | some (.noticeClass _ _), link :: kind :: rest =>
          match readCode linkValues (fun l => .link (some l)) link with
          | some l => some (.noticeClass l (kindValues.find? (fun k => NoticeKind.code k == kind)), rest)
          | none => some (.unknown, rest)
      | some (.rowZone _), [] | some (.window _), [] | some (.noticeClass _ _), [] | some (.noticeClass _ _), [_] => none
      | some x, rest => some (x, rest)

/-- The value of an item (R186): a number in two bytes, that of CROSSING signed; a zone in one; a window's five fields. -/
def readValue : ItemRef → List Byte → Option Item
  | .num i, [lo, hi] => some (.num i (if i = .crossing then signedOf lo hi else wordOf lo hi))
  | .rowZone row, [v] => some (.rowZone row v.toNat)
  | .installed, [m] => (readCode setValues .robots m).map .installed
  | .window n, [enabled, base, limit, links, rights] =>
      match readCode truthValues .truth enabled, readCode linkSetValues .links links, readCode rightSetValues .rights rights with
      | some e, some l, some r => some (.window n ⟨e, base.toNat, limit.toNat, l, r⟩)
      | _, _, _ => none
  | .linkEnable, [b] =>
      (readCode (truthValues.flatMap fun t => truthValues.map fun f => (t, f)) (fun x => .flags [x.1, x.2]) b).map
        (fun x => .linkEnable x.1 x.2)
  | .anemEnable c, [b] => some (.anemEnable c (readCode truthValues .truth b))
  | .mode h, [b] => some (.mode h (readCode [.auto, .ack, .ackGone] .mode b))
  | .map h, [m] => (readCode setValues .zones m).map (.map h)
  | .lineLevel, [b] => some (.lineLevel (readCode [.park, .critical] (fun l => .level (some l)) b))
  | .noticeClass l k, [priority, mask] => (readCode truthValues .truth mask).map (.noticeClass l k priority.toNat)
  | .linkRate, [b] => some (.linkRate (readCode rateValues .linkRate b))
  | _, _ => none

/-! ### Bodies with fields -/

/-- The reading of a BODY that carries fields: nothing when its length does not fit the type (R175). -/
def readBody : ReqType → List Byte → Option Request
  | .trackerReport, body => parseTracker body
  | .permitQuery, [first, count, form] =>
      some (.permitQuery first.toNat count.toNat (readCode [.summary, .detail] .queryForm form))
  | .robotQuery, [first, count] => some (.robotQuery first.toNat count.toNat)
  | .entryRequest, [robot, row] => some (.entryRequest robot.toNat row.toNat)
  | .robotReport, [robot, place, row, lo, hi, battery] =>
      some (.robotReport robot.toNat (readCode placeValues (fun p => .place (some p)) place) row.toNat
        (if hi ++ lo = Config.absentWord .position then none else some (wordOf lo hi))
        (if battery = Config.code .noBattery then none else some battery.toNat))
  | .passComplete, [robot, row] => some (.passComplete robot.toNat row.toNat)
  | .carriageReport, [position] => some (.carriageReport (optOf position))
  | .transferRequest, [robot, row] => some (.transferRequest robot.toNat row.toNat)
  | .roundStart, slot :: kind :: robot :: rest =>
      (readRound (readCode [.span, .due] (fun k => .roundKind (some k)) kind) rest).map
        (.roundStart slot.toNat robot.toNat)
  | .roundPause, [slot] => some (.roundPause slot.toNat)
  | .roundResume, [slot] => some (.roundResume slot.toNat)
  | .roundAbort, [slot] => some (.roundAbort slot.toNat)
  | .parkOrder, [level] => some (.parkOrder (readCode [.park, .critical] (fun l => .level (some l)) level))
  | .hazardAck, [h] => some (.hazardAck (readCode Hazard.all .hazard h))
  | .lostRelease, [robot] => some (.lostRelease robot.toNat)
  | .windowTest, [link, row] => some (.windowTest (readCode linkValues (fun l => .link (some l)) link) row.toNat)
  | .intervalReport, lo :: hi :: first :: count :: energies =>
      if energies.length = 2 * count.toNat then
        some (.intervalReport (wordOf lo hi) first.toNat count.toNat (wordsOf energies))
      else none
  | .coeffWrite, form :: rest =>
      (readCoeffs (readCode [.rows, .scalar] .coeffForm form) rest).map .coeffWrite
  | .coeffRead, [set, first, count] =>
      some (.coeffRead (readCode [.active, .pending] .coeffSet set) first.toNat count.toNat)
  | .accountRead, [row] => some (.accountRead row.toNat)
  | .accountClear, [row] => some (.accountClear (if row = Config.code .allRows then none else some row.toNat))
  | .configWrite, body => (readRef body).bind (fun x => (readValue x.1 x.2).map .configWrite)
  | .configRead, body => (readRef body).bind (fun x => if x.2 = [] then some (.configRead x.1) else none)
  | _, _ => none

end Sys2Proof.Machine
end

