-- ==== Sys2Proof/Machine/Access.lean ====
section
/-! DEFINITION. The Access Decoder (R41 to R53): windows, the decode, WINDOW TEST. -/

namespace Sys2Proof.Machine

/-- The window matches a decode for row `r` on link `l` (R41). -/
def Window.matches (w : Window) (l : Link) (r : Nat) : Bool :=
  w.enabled && decide (w.base ≤ r) && decide (r ≤ w.limit) && LinkSet.has w.links l

/-- The numbers of the windows in ascending order. -/
def windowNumbers : List Nat := List.range 12

/-- The window `n`. -/
def Settings.window (s : Settings) (n : Nat) : Window := look s.windows Window.off n

/-- The number of the deciding window for row `r` on link `l`: the first that matches (R44 step 3, R45). -/
def Settings.deciding (s : Settings) (l : Link) (r : Nat) : Option Nat :=
  windowNumbers.find? (fun n => Window.matches (s.window n) l r)

/-- Step 3 and step 4 of the decode (R44): nothing for proceed, else DENIED or NOT_MAPPED. -/
def Settings.windowAnswer (s : Settings) (l : Link) (x : Right) (r : Nat) : Option Result :=
  match s.deciding l r with
  | none => some .notMapped
  | some n => if RightSet.has (s.window n).rights x then none else some .denied

/-- The decode: does link `l` hold right `x` on row `r` (R44)? Nothing for proceed, else the refusal. -/
def Core.decode (c : Core) (l : Link) (x : Right) (r : Nat) : Option Result :=
  if !c.present r then some .badRow
  else if !c.cfg.enabled l then some .portDisabled
  else c.cfg.windowAnswer l x r

/-- A refused reply: it ends after the result code (R174). -/
def refuse (x : Result) : Reply := { result := x, fields := .none }

/-- WINDOW TEST (R52), after the form test: `l` is the link it names. -/
def reqWindowTest (l : Link) (row : Nat) (c : Core) : Reply :=
  if !c.present row then refuse .badRow
  else
    let n := c.cfg.deciding l row
    { result := .done
      fields := .windowTest (c.cfg.enabled l) n
        (match n with
          | none => ⟨false, false, false, false⟩
          | some n => (c.cfg.window n).rights) }

end Sys2Proof.Machine
end

