-- ==== Sys2Proof/Machine/Fleet.lean ====
section
/-! DEFINITION. The Fleet Table Unit (R54 to R73): robot reports, station contradictions, silence, recovery, release. -/

namespace Sys2Proof.Machine

/-! ### Interpreting a place (R58 to R63) -/

/-- The state and row that a reported place gives a robot that is not LOST (section 4.2, table). -/
def Robot.interpret (x : Robot) (place : Place) (row : Nat) : RobotState × Option Nat :=
  match place with
  | .atStation => (.parked, some row)
  | .anchored => (.anchored, some row)
  | .onCarriage => (.onCarriage, none)
  | .onPanels =>
      match x.state with
      | .cleaning => (if x.returnFlag then .returning else .cleaning, some row)
      | .returning | .anchored | .stranded => (.returning, some row)
      | .unseen | .parked | .onCarriage | .lost => (.cleaning, some row)
  | .fault =>
      match x.state with
      | .cleaning | .returning | .anchored | .stranded => (.stranded, some row)
      | .unseen | .parked | .onCarriage | .lost => (x.state, x.row)

/-- The state and row that recovery gives a LOST robot (R69). -/
def Robot.recover (x : Robot) (place : Place) (row : Nat) : RobotState × Option Nat :=
  match place with
  | .atStation => (.parked, some row)
  | .onPanels => (.returning, some row)
  | .anchored => (.anchored, some row)
  | .onCarriage => (.onCarriage, none)
  | .fault => if x.onPanelsAtLoss then (.stranded, some row) else (.unseen, none)

/-- Position and battery of a report put into the record (R57 step 3): an ON_CARRIAGE report sets the position absent. -/
def Robot.readings (x : Robot) (place : Place) (position battery : Option Nat) : Robot :=
  { x with
    position := if place = .onCarriage then none else (position.map (min 1000)).or x.position
    battery := (battery.map (min 100)).or x.battery }

/-- The record after a report from a robot that is not LOST (R57 to R63). The return flag clears in AT_STATION,
ANCHORED and ON_CARRIAGE (R58, R61, R62), the on-panels-at-loss flag in AT_STATION (R58). -/
def Robot.reported (x : Robot) (place : Place) (row : Nat) (position battery : Option Nat) : Robot :=
  let (state, row') := x.interpret place row
  { (x.readings place position battery) with
    state := state
    row := row'
    returnFlag := x.returnFlag && (place == .onPanels || place == .fault)
    onPanelsAtLoss := x.onPanelsAtLoss && place != .atStation }

/-- The record after recovery (R69). -/
def Robot.recovered (x : Robot) (place : Place) (row : Nat) (position battery : Option Nat) : Robot :=
  let (state, row') := x.recover place row
  { (x.readings place position battery) with
    state := state
    row := row'
    returnFlag := false
    onPanelsAtLoss := false
    recoveryCount := 0
    recoveryPlace := none }

/-- The place that a recovery report names; the row of an ON_CARRIAGE report is not read (R68). -/
def recoveryPlaceOf (place : Place) (row : Nat) : Place × Option Nat :=
  (place, if place = .onCarriage then none else some row)

/-- The recovery count after a recovery report (R68). A report that names another place starts the count at 1 again, also
where RECOVERY has meanwhile been lowered to the standing count or below (DESIGN CHOICE, log entry 38). -/
def Robot.countAfter (x : Robot) (place : Place) (row : Nat) : Nat :=
  if x.recoveryPlace = some (recoveryPlaceOf place row) then x.recoveryCount + 1 else 1

/-- The record of a robot that becomes LOST (R66, R59): the row is kept, the timer stops. -/
def Robot.lose (x : Robot) : Robot :=
  { x with
    state := .lost
    onPanelsAtLoss := x.panelRow.isSome
    recoveryCount := 0
    recoveryPlace := none
    returnFlag := false
    silence := none }

/-! ### Consequences of a record change (R57 step 5) -/

/-- The station change of a robot's record, for the Permit Controller (R30). -/
def stationHandoffs (i : Nat) (old new : Robot) : List Handoff :=
  match old.station with
  | some s => if new.station = some s then [] else [.stationLeft s i]
  | none => []

/-- The occupancy and anchor outcomes of a robot's record change, for the Permit Controller (R4, R36): `c` is the core
with the new record. -/
def panelHandoffs (c : Core) (i : Nat) (old new : Robot) : List Handoff :=
  if old.panelRow = new.panelRow then
    match new.panelRow with
    | none => []
    | some r =>
        if old.state = .anchored ∧ new.state ≠ .anchored then [.anchorReleased r i]
        else if old.state ≠ .anchored ∧ new.state = .anchored then [.anchorSet r]
        else []
  else
    (match old.panelRow with
      | some a => if c.occupancy a = [] then [Handoff.panelsEmptied a] else []
      | none => [])
    ++ (match new.panelRow with
      | some b => [Handoff.panelsEntered b i]
      | none => [])

/-- The other robot recorded PARKED at the station where robot `i` has been placed (R59). -/
def Core.displacedBy (c : Core) (i : Nat) : Option Nat :=
  match (c.robot i).station with
  | none => none
  | some r => robotNumbers.find? (fun j => j != i && (c.robot j).station == some r)

/-- ROBOT_STATE with the robot's record as it stands (R72). -/
def Core.robotNotice (c : Core) (i : Nat) (event : RobotEvent) : Notice :=
  let x := c.robot i
  .robotState i event x.state x.row x.onPanelsAtLoss

/-- The core with robot `i`'s record replaced. -/
def Core.setRobot (c : Core) (i : Nat) (x : Robot) : Core := c.modRobot i (fun _ => x)

/-- The hand-offs of a displaced robot's loss to the Permit Controller (R59, R67): it left the station of `new`. -/
def displacedStation (displaced : Option Nat) (new : Robot) : List Handoff :=
  match displaced, new.station with
  | some j, some r => [.stationLeft r j]
  | _, _ => []

/-- A change of robot `i`'s record with all that R57 step 5 and R59 make of it, in the order of R57 step 5. `passed` is the
row of a PASS COMPLETE, whose credit and completion come between the hand-offs and the fleet's notices (R64 steps 4 and 5)
and stand in for the robot's place at the Round Engine; `own` are the report's own notices. At each block what the reporting
robot does stands before the displaced robot's loss: its station change, its place and the station it takes before the
loss at the Permit Controller and the Carriage Arbiter, its place before the loss at the Round Engine. R57, R67 and R86 do
not order them (DESIGN CHOICE, log entry 37). -/
def Core.changeRobot (c : Core) (i : Nat) (new : Robot) (passed : Option Nat) (own : Core → List Notice) : Ev :=
  let old := c.robot i
  let c1 := c.setRobot i new
  let moved := decide ((old.state, old.row) ≠ (new.state, new.row))
  let displaced := if moved then c1.displacedBy i else none
  let c2 := match displaced with
    | none => c1
    | some j => c1.modRobot j Robot.lose
  (Ev.start c2).handAll
    (stationHandoffs i old new ++ displacedStation displaced new ++ panelHandoffs c2 i old new
      ++ (if moved then [.carriagePlace i] else [])
      ++ (if moved then (new.station.map (Handoff.stationTaken · i)).toList else [])
      ++ (displaced.map Handoff.carriageLost).toList
      ++ (if moved ∧ passed = none then [.roundPlace i] else [])
      ++ (displaced.map Handoff.roundLost).toList
      ++ (match passed with
        | some row => [.passCredit row, .roundPass i row]
        | none => [])
      ++ [.announce (own c2 ++ (displaced.map (c2.robotNotice · .lostDisplaced)).toList)])

/-! ### Requests and expiries -/

/-- The record of a report that does not complete recovery (R68). -/
def Robot.counting (x : Robot) (place : Place) (row : Nat) : Robot :=
  { x with recoveryCount := x.countAfter place row, recoveryPlace := some (recoveryPlaceOf place row) }

/-- A taken robot report (R57). A FAULT report that completes recovery queues RECOVERED and then FAULT: R69 and R63 each
queue a notice, and no rule orders the two (DESIGN CHOICE, log entry 16). -/
def takeRobotReport (i : Nat) (place : Place) (row : Nat) (position battery : Option Nat) (c : Core) : Ev :=
  let x := { c.robot i with silence := some c.cfg.silence }
  if x.state = .lost then
    if c.cfg.recovery ≤ x.countAfter place row then
      c.changeRobot i (x.recovered place row position battery) none
        (fun c => c.robotNotice i .recovered :: (if place = .fault then [c.robotNotice i .fault] else []))
    else Ev.start (c.setRobot i (x.counting place row))
  else
    c.changeRobot i (x.reported place row position battery) none
      (fun c => if place = .fault then [c.robotNotice i .fault] else [])

/-- ROBOT REPORT (R56, R57), after the form test. The reply gives the state and the recovery count after the report,
which no hand-off of the report changes. -/
def reqRobotReport (i : Nat) (place : Place) (row : Nat) (position battery : Option Nat) (c : Core) : Reply × Ev :=
  if !c.installed i then (refuse .badRobot, Ev.start c)
  else if place ≠ .onCarriage ∧ c.present row = false then (refuse .badRow, Ev.start c)
  else
    let e := takeRobotReport i place row position battery c
    let x := e.core.robot i
    ({ result := doneOr (position.any (fun p => decide (1000 < p)) || battery.any (fun b => decide (100 < b)))
       fields := .robot x.state x.recoveryCount }, e)

/-- PASS COMPLETE (R64). -/
def reqPassComplete (i row : Nat) (c : Core) : Reply × Ev :=
  let x := c.robot i
  if !c.installed i then (refuse .badRobot, Ev.start c)
  else if !c.present row then (refuse .badRow, Ev.start c)
  else if (x.state = .cleaning ∨ x.state = .returning) ∧ x.row = some row then
    (refuse .done,
      c.changeRobot i { x with state := .parked, returnFlag := false, silence := some c.cfg.silence }
        (some row) (fun _ => []))
  else (refuse .state, Ev.start c)

/-- The silence timer of robot `i` expires (R66, R67, R68). -/
def robotSilenceExpiry (i : Nat) (c : Core) : Ev :=
  c.atExpiry (fun c => (c.robot i).silence) true fun c =>
    let x := c.robot i
    if x.state = .lost then
      Ev.start (c.setRobot i { x with recoveryCount := 0, recoveryPlace := none, silence := none })
    else
      let new := x.lose
      let c1 := c.setRobot i new
      (Ev.start c1).handAll
        (stationHandoffs i x new ++ panelHandoffs c1 i x new
          ++ [.carriageLost i, .roundLost i, .announce [c1.robotNotice i .lostSilence]])

/-- LOST RELEASE (R70). RELEASED carries the row that the record kept, also of a robot lost at a station, and the state and
the on-panels-at-loss flag as the release leaves them (DESIGN CHOICE, log entry 39). -/
def reqLostRelease (i : Nat) (c : Core) : Reply × Ev :=
  let x := c.robot i
  if !c.installed i then (refuse .badRobot, Ev.start c)
  else if x.state ≠ .lost then (refuse .state, Ev.start c)
  else
    let c1 := c.setRobot i {}
    (refuse .done,
      (Ev.start c1).handAll (panelHandoffs c1 i x {} ++ [.announce [.robotState i .released .unseen x.row false]]))

/-- ROBOT QUERY (R73). -/
def reqRobotQuery (first count : Nat) (c : Core) : Reply :=
  if 7 < first then refuse .badRobot
  else
    let n := min (max count 1) (8 - first)
    { result := doneOr (n != count)
      fields := .robots (((robotNumbers.drop first).take n).map (fun i => (c.installed i, c.robot i))) }

end Sys2Proof.Machine
end

