-- ==== Sys2Proof/Machine/Permits.lean ====
section
/-! DEFINITION. The Permit Controller (R18 to R40): permit changes, entries, timers, breach, intrusion, zones. -/

namespace Sys2Proof.Machine

/-! ### Permit changes and entries -/

/-- A row record with its permit changed (R19): leaving STOW clears the forced flag (R39), entering FREE_MOTION or STOW
clears the breach flag (R34), the mode is compared (R162). -/
def RowRec.withPermit (x : RowRec) (p : Permit) : RowRec :=
  RowRec.compareMode { x with
    permit := p
    forced := x.forced && decide (x.permit ≠ .stow ∨ p = .stow)
    breach := x.breach && decide (p ≠ .freeMotion ∧ p ≠ .stow) }

/-- The hand-off of a permit change of a claimed row to the Round Engine (R19, R105). -/
def RowRec.handChange (x : RowRec) (r : Nat) : List Handoff := if x.claim.isSome then [.permitChanged r] else []

/-- The hand-off of an entry's grant or failure to the slot it comes from; none for the fleet agent and a recovery
(section 2.8). -/
def Origin.hand (o : Origin) (f : Nat → Handoff) : List Handoff :=
  match o with
  | .slot k => [f k]
  | .fleet | .recovery => []

/-- A change of a row's permit (R19): PERMIT is handed to the LIU, the change of a claimed row to the Round Engine. -/
def Ev.setPermit (e : Ev) (r : Nat) (p : Permit) : Ev :=
  ((e.modRow r (fun x => x.withPermit p)).tell (.permit r)).handAll ((e.core.row r).handChange r)

/-- FREE_MOTION when the row's zone is CLEAR, STOW when not (R28, R30). -/
def Core.freeOrStow (c : Core) (r : Nat) : Permit := if c.rowClear r then .freeMotion else .stow

/-- The pending entry of the row dropped with ENTRY_FAILED, handed to the slot it came from (section 2.8). -/
def Ev.failEntry (e : Ev) (r : Nat) (reason : FailReason) : Ev :=
  match (e.core.row r).pending with
  | none => e
  | some p =>
      ((e.modRow r (fun x => { x with pending := none })).note (.entryFailed r p.robot p.origin reason)).handAll
        (p.origin.hand (.entryFailed · r))

/-- ENTRY_GRANT queued, and handed to the slot it came from (section 2.8). -/
def Ev.grantEntry (e : Ev) (r robot : Nat) (origin : Origin) : Ev :=
  (e.note (.entryGrant r robot origin)).handAll (origin.hand (.entryGranted · r))

/-- The row's three timers stopped. -/
def Ev.stopTimers (e : Ev) (r : Nat) : Ev :=
  e.modRow r (fun x => { x with approach := none, guard := none, boarding := none })

/-- GUARD_OUT with a guard of GUARD seconds. -/
def Ev.toGuardOut (e : Ev) (r : Nat) : Ev :=
  (e.modRow r (fun x => { x with guard := some e.core.cfg.guard })).setPermit r .guardOut

/-! ### Entry requests -/

/-- The answer to an entry request by the check that gives it (R23, R24). -/
inductive EntryAnswer where
  | granted
  | accepted
  | decode (x : Result)
  | badRobot
  | census
  | stowed
  | wrongPermit
  | zoneParking
  | notAtStation
  | occupied
  | claimed
  | inTransfer
  deriving DecidableEq, Repr

/-- The result code of an answer (R23, R24). -/
def EntryAnswer.result : EntryAnswer → Result
  | .granted => .granted
  | .accepted => .accepted
  | .decode x => x
  | .badRobot => .badRobot
  | .census | .wrongPermit | .occupied | .claimed | .inTransfer => .busy
  | .stowed | .zoneParking => .parking
  | .notAtStation => .state

/-- The request is refused by the first check of R23 that fails; nothing when all pass. -/
def Core.entryRefusal (c : Core) (l : Link) (origin : Origin) (robot row : Nat) : Option EntryAnswer :=
  match c.decode l .entry row with
  | some x => some (.decode x)
  | none =>
    let x := c.row row
    if !c.installed robot then some .badRobot
    else if c.inCensus then some .census
    else if x.permit = .stow then some .stowed
    else if x.permit ≠ .freeMotion ∧ x.permit ≠ .guardOut then some .wrongPermit
    else if !c.rowClear row then some .zoneParking
    else if (c.robot robot).station ≠ some row then some .notAtStation
    else if c.occupancy row ≠ [] ∨ x.pending.isSome then some .occupied
    else if x.claim.any (fun k => decide (origin ≠ .slot k)) then some .claimed
    else if c.carriage.carries robot then some .inTransfer
    else none

/-- A request that passed every check (R24): the pending entry, then by the row's permit and the hold window. -/
def Ev.takeEntry (e : Ev) (origin : Origin) (robot row : Nat) : EntryAnswer × Ev :=
  let c := e.core
  let approach := some c.cfg.approach
  if (c.row row).permit = .guardOut ∧ c.inWindow row = true then
    (.granted, ((e.modRow row (fun x => { x with
        guard := none, boarding := approach, pending := some ⟨robot, origin, true⟩ })).setPermit row .entry).grantEntry
          row robot origin)
  else
    (.accepted, (e.modRow row (fun x => { x with
        guard := none, approach := approach, pending := some ⟨robot, origin, false⟩ })).setPermit row .holdReq)

/-- An entry request from the fleet agent or from a round slot (R23, R24). -/
def Ev.entryRequest (e : Ev) (l : Link) (origin : Origin) (robot row : Nat) : EntryAnswer × Ev :=
  match e.core.entryRefusal l origin robot row with
  | some a => (a, e)
  | none => e.takeEntry origin robot row

/-! ### Breach and intrusion -/

/-- A breach found (R33): with the flag clear it is set, HOLD_BREACH is queued and the robots of the row that are not
ANCHORED are ordered to ANCHOR. -/
def Ev.breachFound (e : Ev) (r : Nat) : Ev :=
  let x := e.core.row r
  if x.breach then e
  else
    let e := (e.modRow r (fun x => { x with breach := true })).note (.holdBreach r x.angle x.tracker true)
    e.each (e.core.unanchored r) (fun i e => e.orderHere i .anchor)

/-- The permit is one in which a breach angle is a breach (R33). -/
def Permit.guards (p : Permit) : Bool := p == .guardIn || p == .entry || p == .guardOut

/-- The flag cleared by a report inside the hold window (R34). -/
def Ev.breachEnded (e : Ev) (r : Nat) : Ev :=
  let x := e.core.row r
  if x.breach && e.core.inWindow r then
    (e.modRow r (fun x => { x with breach := false })).note (.holdBreach r x.angle x.tracker false)
  else e

/-- An intrusion on a row that is not in ENTRY or STOW (R35); `recovery` is set for an anchor released in a recovery
hold (R36). -/
def Ev.intrude (e : Ev) (r robot : Nat) (recovery : Bool) : Ev :=
  let before := (e.core.row r).permit
  let pending := (e.core.row r).pending
  let e := e.stopTimers r
  let e := match pending with
    | some p =>
        if p.robot = robot then (e.modRow r (fun x => { x with pending := none })).grantEntry r robot p.origin
        else e.failEntry r .intrusion
    | none => if recovery then e.grantEntry r robot .recovery else e
  let e := (e.setPermit r .entry).note (.intrusion r robot before)
  if e.core.breachAngle r then e.breachFound r else e

/-- An intrusion on a STOW row: INTRUSION, and the Park Controller sets the forced flag (R36, R146). -/
def Ev.intrudeStow (e : Ev) (r robot : Nat) : Ev :=
  (e.note (.intrusion r robot .stow)).modRow r (fun x => { x with forced := true })

/-- A panels-entered hand-off (R29, R35, R36). -/
def Ev.panelsEntered (e : Ev) (r robot : Nat) : Ev :=
  let x := e.core.row r
  match x.permit with
  | .entry =>
      if x.pending.any (fun p => p.robot == robot) then
        e.modRow r (fun x => { x with pending := none, boarding := none })
      else e.note (.intrusion r robot .entry)
  | .stow => e.intrudeStow r robot
  | .still | .freeMotion | .holdReq | .guardIn | .guardOut => e.intrude r robot false

/-- A STOW row of a CLEAR zone decided by its occupancy (R39). -/
def Ev.decideStow (e : Ev) (r : Nat) : Ev :=
  if e.core.occupancy r = [] then e.setPermit r (if e.core.inCensus then .still else .freeMotion)
  else if e.core.unanchored r = [] then e.setPermit r .holdReq
  else e

/-- A panels-emptied hand-off (R31). -/
def Ev.panelsEmptied (e : Ev) (r : Nat) : Ev :=
  let x := e.core.row r
  match x.permit with
  | .entry =>
      (e.modRow r (fun x => { x with
        boarding := none, pending := x.pending.map (fun p => { p with granted := false }) })).toGuardOut r
  | .holdReq | .guardIn => if x.pending.isNone then e.toGuardOut r else e
  | .stow => if e.core.rowClear r then e.decideStow r else e
  | .still | .freeMotion | .guardOut => e

/-- An anchor-set hand-off (R36, R39). -/
def Ev.anchorSet (e : Ev) (r : Nat) : Ev :=
  if (e.core.row r).permit = .stow ∧ e.core.rowClear r = true then e.decideStow r else e

/-- An anchor-released hand-off (R36). -/
def Ev.anchorReleased (e : Ev) (r robot : Nat) : Ev :=
  match (e.core.row r).permit with
  | .stow => e.intrudeStow r robot
  | .holdReq | .guardIn => e.intrude r robot true
  | .still | .freeMotion | .entry | .guardOut => e

/-! ### Entries that end -/

/-- The pending entry dropped by the robot's departure or by a withdrawal, with the permit that follows (R30). -/
def Ev.dropEntry (e : Ev) (r : Nat) (reason : FailReason) : Ev :=
  let x := e.core.row r
  if x.pending.isNone then e
  else match x.permit with
    | .holdReq | .guardIn =>
        let e := (e.stopTimers r).failEntry r reason
        e.setPermit r (e.core.freeOrStow r)
    | .entry =>
        let e := (e.stopTimers r).failEntry r reason
        if e.core.occupancy r = [] then e.toGuardOut r else e
    | .guardOut | .still | .freeMotion | .stow => e.failEntry r reason

/-- A robot stopped being PARKED at the row's station (R30): its pending entry is dropped, except on a boarding. -/
def Ev.stationLeft (e : Ev) (r robot : Nat) : Ev :=
  if (e.core.row r).pending.any (fun p => p.robot == robot) && (e.core.robot robot).panelRow != some r
      && (e.core.robot robot).station != some r then
    e.dropEntry r .robotGone
  else e

/-- The pending entries of slot `k` withdrawn on every row (R30, R112, R114). -/
def Ev.withdrawEntries (e : Ev) (k : Nat) : Ev :=
  e.each ((List.range 96).filter (fun r => (e.core.row r).pending.any (fun p => p.origin == .slot k)))
    (fun r e => e.dropEntry r .withdrawn)

/-! ### Tracker reports -/

/-- The permit rules evaluated against the fields just written (R25, R26, R33, R34). -/
def Ev.permitRules (e : Ev) (r : Nat) : Ev :=
  let before := (e.core.row r).permit
  let e :=
    if before = .holdReq ∧ e.core.held r = true then
      (e.modRow r (fun x => { x with guard := some e.core.cfg.guard })).setPermit r .guardIn
    else if before = .guardIn ∧ e.core.held r = false then
      (e.modRow r (fun x => { x with guard := none })).setPermit r .holdReq
    else e
  let e := if Permit.guards before && e.core.breachAngle r then e.breachFound r else e
  e.breachEnded r

/-- A tracker report entry applied to row `r` (R8). -/
def Ev.applyReport (e : Ev) (r : Nat) (state : TrackerState) (angle : Int) : Ev :=
  let wasSilent := (e.core.row r).silent
  let e := e.modRow r (fun x => { x with
    angle := reportedAngle angle
    tracker := state
    age := some 0
    silence := some e.core.cfg.trackerSilence
    silent := false })
  let e := if wasSilent then e.note (.trackerSilent r false) else e
  (e.permitRules r).modRow r RowRec.compareMode

/-- One entry of a tracker report, an event of its own (R8, R10). -/
def trackerEvent (x : TrackerEntry) (c : Core) : Ev := (Ev.start c).applyReport x.row (x.state.getD .unknown) x.angle

/-! ### Expiries -/

/-- The silence timer of row `r` expires (R12). -/
def trackerSilenceExpiry (r : Nat) (c : Core) : Ev :=
  c.atExpiry (fun c => (c.row r).silence) (c.present r) fun c =>
    ((Ev.start c).modRow r (fun x => RowRec.compareMode { x with
      tracker := .unknown, silent := true, silence := none })).note (.trackerSilent r true)

/-- The census timer expires (R22). -/
def censusExpiry (c : Core) : Ev :=
  c.atExpiry (fun c => c.census) true fun c =>
    let e := (Ev.start c).mod (fun c => { c with census := none })
    let still := c.presentRows.filter (fun r => (c.row r).permit == .still && c.occupancy r == [])
    (e.each still (fun r e => e.setPermit r (e.core.freeOrStow r))).hand .censusEnded

/-- The approach timer of row `r` expires (R28). -/
def approachExpiry (r : Nat) (c : Core) : Ev :=
  let p := (c.row r).permit
  c.atExpiry (fun c => (c.row r).approach) (p == .holdReq || p == .guardIn) fun c =>
    let e := ((Ev.start c).stopTimers r).failEntry r .trackerTimeout
    e.setPermit r (e.core.freeOrStow r)

/-- The guard timer of a GUARD_IN row expires (R27). -/
def guardInExpiry (r : Nat) (c : Core) : Ev :=
  c.atExpiry (fun c => (c.row r).guard) ((c.row r).permit == .guardIn) fun c =>
    let e := Ev.start c
    match (c.row r).pending with
    | some p =>
        ((e.modRow r (fun x => { x with
            approach := none, guard := none, boarding := some c.cfg.approach
            pending := some { p with granted := true } })).setPermit r .entry).grantEntry r p.robot p.origin
    | none =>
        let e := (e.stopTimers r).setPermit r .entry
        match c.occupant r with
        | some i => e.grantEntry r i .recovery
        | none => e

/-- The guard timer of a GUARD_OUT row expires (R32). -/
def guardOutExpiry (r : Nat) (c : Core) : Ev :=
  c.atExpiry (fun c => (c.row r).guard) ((c.row r).permit == .guardOut) fun c =>
    let e := ((Ev.start c).modRow r (fun x => { x with guard := none })).failEntry r .notBoarded
    e.setPermit r (if c.inCensus then .still else c.freeOrStow r)

/-- The boarding timer of row `r` expires (R29). -/
def boardingExpiry (r : Nat) (c : Core) : Ev :=
  c.atExpiry (fun c => (c.row r).boarding) ((c.row r).permit == .entry) fun c =>
    let e := ((Ev.start c).modRow r (fun x => { x with boarding := none })).failEntry r .notBoarded
    if c.occupancy r = [] then e.toGuardOut r else e

/-! ### Zones -/

/-- One row at zone parked (R37). -/
def Ev.parkRow (r : Nat) (e : Ev) : Ev :=
  match (e.core.row r).permit with
  | .freeMotion | .still => e.setPermit r .stow
  | .holdReq | .guardIn => ((e.stopTimers r).failEntry r .parking).setPermit r .stow
  | .entry =>
      if e.core.occupancy r = [] then
        ((e.modRow r (fun x => { x with boarding := none })).failEntry r .parking).toGuardOut r
      else e
  | .guardOut | .stow => e

/-- Zone parked at the Permit Controller (R37), which does not act on it outside RUN (R20). -/
def Ev.permitZoneParked (e : Ev) (z : Nat) : Ev :=
  if e.core.phase = .run then e.each (e.core.zoneRows z) Ev.parkRow else e

/-- Zone cleared at the Permit Controller (R39). -/
def Ev.permitZoneCleared (e : Ev) (z : Nat) : Ev :=
  if e.core.phase = .run then
    e.each ((e.core.zoneRows z).filter (fun r => (e.core.row r).permit == .stow)) (fun r e => e.decideStow r)
  else e

/-- A stow grant, or a forced stow after its flag is set: an ENTRY row goes to STOW (R38). -/
def Ev.stowOver (e : Ev) (r : Nat) : Ev :=
  if (e.core.row r).permit = .entry then
    ((e.modRow r (fun x => { x with boarding := none })).failEntry r .parking).setPermit r .stow
  else e

/-! ### Requests -/

/-- ENTRY REQUEST from the fleet agent (R23, R24). -/
def reqEntryRequest (l : Link) (robot row : Nat) (c : Core) : Reply × Ev :=
  let (a, e) := (Ev.start c).entryRequest l .fleet robot row
  (refuse (EntryAnswer.result a), e)

end Sys2Proof.Machine
end

