-- ==== Sys2Proof/Machine/Parking.lean ====
section
/-! DEFINITION. The Park Controller (R135 to R152): zone evaluation, zone test, standing orders, stow grants, forced
stow, release. -/

namespace Sys2Proof.Machine

/-! ### Standing orders (R140, R142) -/

/-- The standing order of robot `i` while its zone has level `l` (R140): of a robot of a row whose breach flag is set,
ANCHOR unless it is ANCHORED. -/
def Core.standingOrder (c : Core) (l : Sev) (i : Nat) : Option Order :=
  let x := c.robot i
  match x.station, x.panelRow with
  | some _, _ => some .holdAtStation
  | none, none => none
  | none, some r =>
      if x.state = .anchored then none
      else if (c.row r).breach then some .anchor
      else match l with
        | .critical => some .anchor
        | .park => if x.state = .cleaning then some .ret else none

/-- The robots that belong to zone `z` (R138), taken in ascending number (DESIGN CHOICE, log entry 35). -/
def Core.zoneRobots (c : Core) (z : Nat) : List Nat := robotNumbers.filter (fun i => c.belongs i == some z)

/-- The standing order of a robot of zone `z` (R140). -/
def Core.zoneOrder (c : Core) (z i : Nat) : Option Order := (c.zone z).level.bind (fun l => c.standingOrder l i)

/-- The orders of an onset or an escalation: whatever the last order is (R141, R143). -/
def Ev.zoneOrders (e : Ev) (z : Nat) : Ev :=
  e.each (e.core.zoneRobots z) fun i e =>
    match e.core.zoneOrder z i with
    | some o => e.orderHere i o
    | none => e

/-- The robots whose state or row differ between two cores. -/
def movedRobots (c0 c : Core) : List Nat :=
  robotNumbers.filter (fun i => decide ((c0.robot i).state ≠ (c.robot i).state ∨ (c0.robot i).row ≠ (c.robot i).row))

/-- Robot `i` of a zone of level `l` is ordered to anchor again, whatever its last order is, in an event that takes the core
from `c0` to `c` (R142): at CRITICAL, a robot that was ANCHORED and is RETURNING, or that has recovered (DEDUCED, log entry
36). -/
def Core.anchorAgain (c0 c : Core) (l : Option Sev) (i : Nat) (o : Order) : Bool :=
  o == .anchor && l == some .critical
    && (((c0.robot i).state == .anchored && (c.robot i).state == .returning)
      || ((c0.robot i).state == .lost && (c.robot i).state != .lost))

/-- Step 3 of the zone test, in an event begun at `c0`, for the robots whose state or row it changed: a standing order that
is not the last order, or an ANCHOR given again (R142). -/
def Ev.standingOrders (e : Ev) (z : Nat) (c0 : Core) : Ev :=
  e.each ((e.core.zoneRobots z).filter (fun i => (movedRobots c0 e.core).contains i)) fun i e =>
    match e.core.zoneOrder z i with
    | some o =>
        if (e.core.robot i).lastOrder = some (o, (e.core.robot i).row)
            ∧ c0.anchorAgain e.core (e.core.zone z).level i o = false then e
        else e.orderHere i o
    | none => e

/-- The last order is one that a park gives (R142, R149). -/
def Robot.parkOrdered (x : Robot) : Bool :=
  x.lastOrder.any (fun o => o.1 == .holdAtStation || o.1 == .ret || o.1 == .anchor)

/-- Robot `i` is on the panels of a row whose breach flag is set (R142, R149). -/
def Core.onBreach (c : Core) (i : Nat) : Bool := (c.robot i).panelRow.any (fun r => (c.row r).breach)

/-- RESUME for robot `i` unless its last order is no park order or a breach stands (R142, R149). -/
def Ev.resumeRobot (i : Nat) (e : Ev) : Ev :=
  if (e.core.robot i).parkOrdered && !e.core.onBreach i then e.orderHere i .resume else e

/-- The RESUME orders of a release (R149). -/
def Ev.zoneResume (e : Ev) (z : Nat) : Ev := e.each (e.core.zoneRobots z) Ev.resumeRobot

/-! ### The zone test (R138, R139, R145, R147) -/

/-- The three conditions of SECURED (R139). -/
def Core.secured (c : Core) (z : Nat) : Bool :=
  (c.zoneRows z).all (fun r => (c.row r).permit == .stow && (c.unanchored r).isEmpty) && c.carriageHolds z

/-- Step 1: stow grants (R145), the rows in ascending number (DESIGN CHOICE, log entry 35). -/
def Ev.stowGrants (e : Ev) (z : Nat) : Ev :=
  e.each ((e.core.zoneRows z).filter (fun r =>
      (e.core.row r).permit == .entry && !(e.core.occupancy r).isEmpty && (e.core.unanchored r).isEmpty))
    (fun r e => e.stowOver r)

/-- A row needs its forced-stow timer (R147). -/
def Core.needsForced (c : Core) (r : Nat) : Bool :=
  decide ((c.row r).permit ≠ .stow) && !(c.unanchored r).isEmpty

/-- The forced-stow timer of a row after step 2 (R147): a FORCED of 0 starts none. -/
def Core.forcedAfter (c : Core) (r : Nat) : Option Nat :=
  if c.needsForced r then
    match (c.row r).forcedTimer with
    | some n => some n
    | none => if c.cfg.forced = 0 then none else some c.cfg.forced
  else none

/-- Step 2: the forced-stow timers of a zone at CRITICAL (R147). -/
def Ev.forcedTimers (e : Ev) (z : Nat) : Ev :=
  if (e.core.zone z).level = some .critical then
    e.each (e.core.zoneRows z) (fun r e => e.modRow r (fun x => { x with forcedTimer := e.core.forcedAfter r }))
  else e

/-- Step 4: the zone's state; a change queues ZONE_STATE (R139). -/
def Ev.zoneState (e : Ev) (z : Nat) : Ev :=
  let s : ZoneState := if e.core.secured z then .secured else .securing
  if (e.core.zone z).state = .clear ∨ (e.core.zone z).state = s then e
  else (e.mod (fun c => c.modZone z (fun x => { x with state := s }))).tellOnce (.zoneState z)

/-- A zone test in an event begun at `c0` (R138). A CLEAR zone is not tested. -/
def Ev.zoneTest (e : Ev) (z : Nat) (c0 : Core) : Ev :=
  if e.core.zoneClear z then e
  else ((((e.stowGrants z).forcedTimers z).standingOrders z c0).zoneState z)

/-! ### Zone evaluation (R136) -/

/-- The forced-stow timers of the zone's rows stopped (R144, R149). -/
def Ev.stopForced (e : Ev) (z : Nat) : Ev :=
  e.each (e.core.zoneRows z) (fun r e => e.modRow r (fun x => { x with forcedTimer := none }))

/-- The four changes of a zone's level, or none (R136). -/
inductive LevelChange where
  | onset | escalation | relief | release | none
  deriving DecidableEq, Repr

/-- The change from one level to another (R136). -/
def levelChange : Option Sev → Option Sev → LevelChange
  | .none, .some _ => .onset
  | .some .park, .some .critical => .escalation
  | .some .critical, .some .park => .relief
  | .some _, .none => .release
  | .some .park, .some .park | .some .critical, .some .critical | .none, .none => .none

/-- The zone evaluation of zone `z` (R136, R141, R143, R144, R149). -/
def Ev.evalZone (e : Ev) (z : Nat) (setChanged : Bool) : Ev :=
  let level := e.core.zoneLevel z
  let change := levelChange (e.core.zone z).level level
  let e := match change with
    | .relief | .release => e.stopForced z
    | .onset | .escalation | .none => e
  let e := e.mod (fun c => c.modZone z (fun x =>
    { level := level
      state := match change with
        | .onset => .securing
        | .release => .clear
        | .escalation | .relief | .none => x.state }))
  e.handAll (match change with
    | .onset => [.permitZoneParked z, .carriageZoneParked z, .roundZoneParked z, .zoneOrders z, .zoneTest z,
        .announceZone z]
    | .escalation => [.zoneOrders z, .zoneTest z, .announceZone z]
    | .relief => [.zoneTestState z, .announceZone z]
    | .release => [.zoneResume z, .permitZoneCleared z, .carriageZoneCleared z, .roundZoneCleared z, .announceZone z]
    | .none => if setChanged then [.announceZone z] else [])

/-! ### The tests at the end of an event (R138, R142) -/

/-- The event that led from `c0` to `c` calls for a test of zone `z` (R138). -/
def touched (c0 c : Core) (z : Nat) : Bool :=
  !c.zoneClear z &&
    (decide ((c0.zone z).level ≠ (c.zone z).level) || decide (c0.zoneHazards z ≠ c.zoneHazards z)
      || (c.zoneRows z).any (fun r =>
          decide ((c0.row r).permit ≠ (c.row r).permit) || decide (c0.occupancy r ≠ c.occupancy r))
      || (movedRobots c0 c).any (fun i => c0.belongs i == some z || c.belongs i == some z)
      || decide (c0.carriage.state ≠ c.carriage.state)
      || (decide (c0.carriage.position ≠ c.carriage.position)
          && (c0.carriage.position.any (fun r => c.zoneOf r == z)
            || c.carriage.position.any (fun r => c.zoneOf r == z))))

/-- The robots that the event took from a zone that was not CLEAR to a station or the panels of a CLEAR one (R142). -/
def leftParked (c0 c : Core) : List Nat :=
  (movedRobots c0 c).filter (fun i =>
    (c0.belongs i).any (fun z => !c0.zoneClear z) && (c.belongs i).any c.zoneClear)

/-! ### Forced stow (R148) -/

/-- The robots of FORCED_STOW: those of the occupancy that are not ANCHORED, with their states (R151). -/
def Core.forcedRobots (c : Core) (r : Nat) : List (Nat × RobotState) :=
  (c.unanchored r).map (fun i => (i, (c.robot i).state))

/-- The forced-stow timer of row `r` expires (R148). -/
def forcedStowExpiry (r : Nat) (c : Core) : Ev :=
  c.atExpiry (fun c => (c.row r).forcedTimer) true fun c =>
    let e := (Ev.start c).modRow r (fun x => { x with forcedTimer := none, forced := true })
    ((e.note (.forcedStow r (c.zoneOf r) (c.forcedRobots r))).stowOver r).hand (.zoneTest (c.zoneOf r))

/-! ### ZONE QUERY (R152) -/

/-- One zone of ZONE QUERY. -/
def Core.zoneEntry (c : Core) (z : Nat) : ZoneEntry :=
  let rows := c.zoneRows z
  { zone := c.zone z
    hazards := c.zoneHazards z
    presentRows := rows.length
    rowsNotStow := (rows.filter (fun r => decide ((c.row r).permit ≠ .stow))).length
    unanchored := (rows.flatMap c.unanchored).length
    carriageHolds := c.carriageHolds z }

/-- ZONE QUERY (R152). -/
def reqZoneQuery (c : Core) : Reply :=
  { result := .done
    fields := .zones (zoneNumbers.map c.zoneEntry)
      (c.presentRows.filterMap (fun r => (c.row r).forcedTimer.map (fun n => (r, c.zoneOf r, n))))
      c.parkOut }

end Sys2Proof.Machine
end

