-- ==== Sys2Proof/Machine/Carriage.lean ====
section
/-! DEFINITION. The Carriage Arbiter (R74 to R93): queue and grant order, throttle, grants, transfers and their ends,
parking zones. -/

namespace Sys2Proof.Machine

/-! ### Notices, throttle, queue -/

/-- CARRIAGE_STATE as the carriage stands (R91). -/
def Carriage.notice (k : Carriage) : Notice :=
  .carriageState k.state k.position k.passenger (k.active.map (·.robot)) k.queue.length k.throttle

/-- CARRIAGE_STATE handed to the LIU (R91). -/
def Ev.sayCarriage (e : Ev) : Ev := e.note e.core.carriage.notice

/-- The throttle after a change of the queued depth (R79). -/
def throttleAfter (s : Settings) (flag : Bool) (depth : Nat) : Bool :=
  if flag then !decide (depth < s.tLower) else decide (s.tUpper ≤ depth)

/-- The throttle re-evaluated (R79): a change queues CARRIAGE_STATE and is handed to the Round Engine, which acts on
a clearing only (R116). -/
def Ev.evalThrottle (e : Ev) : Ev :=
  let k := e.core.carriage
  let flag := throttleAfter e.core.cfg k.throttle k.queue.length
  if flag = k.throttle then e
  else
    let e := (e.modCarriage (fun k => { k with throttle := flag })).sayCarriage
    if flag then e else e.hand .throttleCleared

/-- An accepted entry put in grant order: SERVICE before ROUND, then the order of acceptance (R76). -/
def enqueue (t : Transfer) (q : List Transfer) : List Transfer :=
  match t.cls with
  | .round => q ++ [t]
  | .service => q.filter (fun x => x.cls == .service) ++ t :: q.filter (fun x => x.cls == .round)

/-- The inbound transfer of a row set or cleared (R2). -/
def Ev.setInbound (e : Ev) (row : Nat) (i : Option Nat) : Ev := e.modRow row (fun x => { x with inbound := i })

/-- What the transfer notices carry of a transfer (R91). -/
def Transfer.body (t : Transfer) : TransferBody :=
  { robot := t.robot, source := t.source, dest := t.dest, cls := t.cls, slot := t.slot, arrival := t.arrival }

/-- The end of a transfer handed to the Round Engine (R83, R91, R104), which reads its robot (R94). -/
def Ev.handEnd (e : Ev) (t : Transfer) (o : TransferOutcome) : Ev :=
  match t.cls, t.slot with
  | .round, some k => e.hand (.transferEnd k t.robot t.dest o)
  | .round, none => e
  | .service, _ => if (e.core.robot t.robot).round.isSome then e.hand (.serviceEnd t.robot) else e

/-- An entry taken out of the queue: its reservation cleared (R80, R84 to R86, R89, R92). -/
def Ev.unqueue (e : Ev) (t : Transfer) : Ev :=
  (e.modCarriage (fun k => { k with queue := k.queue.filter (fun x => decide (x ≠ t)) })).setInbound t.dest none

/-- A queue entry removed with an outcome: throttle, TRANSFER_END, hand-off (R80, R84 to R86). The throttle stands before
TRANSFER_END for every cause, as R84 and R92 have it (DESIGN CHOICE, log entry 31). -/
def Ev.removeEntry (e : Ev) (t : Transfer) (o : TransferOutcome) : Ev :=
  (((e.unqueue t).evalThrottle).note (.transferEnd t.body o)).handEnd t o

/-! ### Grants -/

/-- A grant (R81). -/
def Ev.grantTransfer (e : Ev) (t : Transfer) : Ev :=
  let e := e.modCarriage (fun k => { k with
    queue := k.queue.filter (fun x => decide (x ≠ t))
    active := some t
    state := .toPickup
    timer := some e.core.cfg.transferTime })
  ((e.evalThrottle).note (.transferGrant t.body)).sayCarriage

/-- A grant consideration over the entries still to be reached, in grant order (R80, R50). When the slot acts on what a
removal hands it in the middle of the consideration, the end DENIED and a throttle-cleared, R80 and R50 do not say: both are
delivered after the whole consideration, the grant included (DESIGN CHOICE, log entry 2). -/
def Ev.consider (e : Ev) : List Transfer → Ev
  | [] => e
  | t :: ts =>
      match e.core.decode t.link .transfer t.dest with
      | some _ => Ev.consider (e.removeEntry t .denied) ts
      | none =>
          if e.core.rowClear t.source && e.core.rowClear t.dest then e.grantTransfer t
          else Ev.consider e ts

/-- A grant consideration, made when the carriage is IDLE (R80). -/
def Ev.grantConsideration (e : Ev) : Ev :=
  if e.core.carriage.state = .idle then e.consider e.core.carriage.queue else e

/-- A free carriage is IDLE, or SECURED where it stands in a zone that is not CLEAR (R90). -/
def Core.freeState (c : Core) : CarriageState := if c.carriageParking then .secured else .idle

/-! ### Transfer requests -/

/-- The answer to a transfer request by the check that gives it (R77). -/
inductive TransferAnswer where
  | accepted (arrival : BitVec 16)
  | decode (x : Result)
  | badRobot
  | notParked
  | inTransfer
  | stationOccupied
  | stationTargeted
  | throttled
  | full
  deriving DecidableEq, Repr

/-- The result code of an answer (R77, R78). -/
def TransferAnswer.result : TransferAnswer → Result
  | .accepted _ => .accepted
  | .decode x => x
  | .badRobot => .badRobot
  | .notParked | .inTransfer | .stationOccupied | .stationTargeted | .throttled => .busy
  | .full => .full

/-- The request is refused by the first check of R77 that fails; nothing when all pass. -/
def Core.transferRefusal (c : Core) (l : Link) (cls : TransferClass) (robot dest : Nat) : Option TransferAnswer :=
  match c.decode l .transfer dest with
  | some x => some (.decode x)
  | none =>
    if !c.installed robot then some .badRobot
    else if (c.robot robot).state ≠ .parked then some .notParked
    else if c.carriage.carries robot then some .inTransfer
    else if (c.stationOccupant dest).isSome then some .stationOccupied
    else if (c.row dest).inbound.isSome then some .stationTargeted
    else if cls = .round ∧ c.carriage.throttle = true then some .throttled
    else if Config.transferQueueSize ≤ c.carriage.queue.length then some .full
    else none

/-- The entry a taken request builds (R78 step 1). -/
def Core.newTransfer (c : Core) (l : Link) (cls : TransferClass) (slot : Option Nat) (robot dest : Nat) : Transfer where
  robot := robot
  source := (c.robot robot).row.getD 0
  dest := dest
  cls := cls
  link := l
  slot := slot
  arrival := c.carriage.nextArrival

/-- A transfer request, of the fleet or plant agent (SERVICE) or of a round slot (ROUND) (R77, R78). When a waiting slot acts on
the throttle-cleared that the re-evaluation of step 3 can hand over (T_LOWER raised meanwhile), R78 and R79 do not say: it is
delivered after the grant consideration of step 4 (DESIGN CHOICE, log entry 2). -/
def Ev.transferRequest (e : Ev) (l : Link) (cls : TransferClass) (slot : Option Nat) (robot dest : Nat) :
    TransferAnswer × Ev :=
  match e.core.transferRefusal l cls robot dest with
  | some a => (a, e)
  | none =>
      let t := e.core.newTransfer l cls slot robot dest
      let e := e.modCarriage (fun k => { k with queue := enqueue t k.queue, nextArrival := k.nextArrival + 1 })
      (.accepted t.arrival, ((e.setInbound dest (some robot)).evalThrottle).grantConsideration)

/-- A withdrawal of the Round Engine (R92): the queued ROUND entry of slot `k` removed, its end not handed back. -/
def Ev.withdrawTransfer (e : Ev) (k : Nat) : Ev :=
  match e.core.carriage.queue.find? (fun t => t.cls == .round && t.slot == some k) with
  | none => e
  | some t => ((e.unqueue t).evalThrottle).note (.transferEnd t.body .cancelled)

/-! ### The end of the active transfer -/

/-- Steps 1 to 5 of R83: the carriage is free again. `delivered` is the row of the robot's new place, which becomes the
position of a LOADED carriage. A carriage that becomes IDLE and SECURED at once (step 4) is told of by one CARRIAGE_STATE, that
of step 5 behind TRANSFER_END, though R90 queues one on entering SECURED too (DESIGN CHOICE, log entry 31). -/
def Ev.freeCarriage (e : Ev) (t : Transfer) (o : TransferOutcome) (delivered : Option Nat) : Ev :=
  let e := e.setInbound t.dest none
  let e := e.modCarriage (fun k => { k with
    timer := none
    active := none
    passenger := none
    position := if k.state = .loaded ∧ delivered.isSome then delivered else k.position })
  let e := e.modCarriage (fun k => { k with state := e.core.freeState })
  ((e.note (.transferEnd t.body o)).sayCarriage).handEnd t o

/-- The active transfer ends and the carriage becomes FAULT, its passenger kept (R85, R86, R87). -/
def Ev.faultCarriage (e : Ev) (t : Transfer) (o : TransferOutcome) : Ev :=
  let e := (e.setInbound t.dest none).modCarriage (fun k => { k with timer := none, active := none, state := .fault })
  ((e.note (.transferEnd t.body o)).sayCarriage).handEnd t o

/-- The active transfer cancelled: a TO_PICKUP carriage becomes free, a LOADED one FAULT (R85, R86). -/
def Ev.cancelActive (e : Ev) (t : Transfer) : Ev :=
  if e.core.carriage.state = .loaded then e.faultCarriage t .cancelled
  else (e.freeCarriage t .cancelled none).grantConsideration

/-! ### Hand-offs -/

/-- The robot of a queued entry changed place (R84). -/
def Ev.queuedMoved (e : Ev) (i : Nat) : Ev :=
  match e.core.carriage.queue.find? (fun t => t.robot == i) with
  | none => e
  | some t => e.removeEntry t (if (e.core.robot i).station = some t.dest then .done else .misrouted)

/-- The robot's new place reaches the arbiter (R82, R83, R84). The end handed to the slot in R83 step 5 is delivered after
the grant consideration of step 6 (DESIGN CHOICE, log entry 2). -/
def Ev.carriagePlace (e : Ev) (i : Nat) : Ev :=
  let x := e.core.robot i
  let k := e.core.carriage
  match k.active with
  | some t =>
      if t.robot = i then
        if x.state = .onCarriage then
          if k.state = .toPickup then
            (e.modCarriage (fun k => { k with state := .loaded, passenger := some i })).sayCarriage
          else e
        else
          match x.station, x.panelRow with
          | some r, _ =>
              (e.freeCarriage t (if r = t.dest then .done else .misrouted) (some r)).grantConsideration
          | none, some r => (e.freeCarriage t .misrouted (some r)).grantConsideration
          | none, none => e
      else e.queuedMoved i
  | none => e.queuedMoved i

/-- The station of `row` is taken by robot `i` (R85). -/
def Ev.stationTaken (e : Ev) (row i : Nat) : Ev :=
  let k := e.core.carriage
  let e := match k.queue.find? (fun t => t.dest == row && t.robot != i) with
    | some t => e.removeEntry t .cancelled
    | none => e
  match k.active with
  | some t => if t.dest = row ∧ t.robot ≠ i then e.cancelActive t else e
  | none => e

/-- The loss of a robot reaches the arbiter (R86). -/
def Ev.carriageLost (e : Ev) (i : Nat) : Ev :=
  let k := e.core.carriage
  let e := match k.queue.find? (fun t => t.robot == i) with
    | some t => e.removeEntry t .cancelled
    | none => e
  match k.active with
  | some t => if t.robot = i then e.cancelActive t else e
  | none => e

/-- The entry touches zone `z` (R89). -/
def Core.touches (c : Core) (z : Nat) (t : Transfer) : Bool := c.zoneOf t.source == z || c.zoneOf t.dest == z

/-- Zone parked at the arbiter (R89). A carriage that step 2 frees in a zone that parks is SECURED in that step, with the one
CARRIAGE_STATE of R83 step 5, and step 4 finds it so (DESIGN CHOICE, log entry 31). -/
def Ev.carriageZoneParked (e : Ev) (z : Nat) : Ev :=
  let gone := e.core.carriage.queue.filter (fun t => e.core.touches z t)
  let e := e.each gone (fun t e => ((e.unqueue t).note (.transferEnd t.body .cancelled)).handEnd t .cancelled)
  let e := if gone = [] then e else e.evalThrottle
  let e := match e.core.carriage.active with
    | some t =>
        if e.core.carriage.state = .toPickup ∧ e.core.touches z t = true then e.freeCarriage t .cancelled none else e
    | none => e
  if e.core.carriage.state = .idle then
    if e.core.carriage.position.any (fun r => e.core.zoneOf r == z) then
      (e.modCarriage (fun k => { k with state := .secured })).sayCarriage
    else e.grantConsideration
  else e

/-- Zone cleared at the arbiter (R90). -/
def Ev.carriageZoneCleared (e : Ev) (z : Nat) : Ev :=
  let k := e.core.carriage
  if k.state = .secured ∧ k.position.any (fun r => e.core.zoneOf r == z) = true then
    ((e.modCarriage (fun k => { k with state := .idle })).sayCarriage).grantConsideration
  else e.grantConsideration

/-- The transfer timer expires (R87). -/
def transferTimerExpiry (c : Core) : Ev :=
  let k := c.carriage
  c.atExpiry (fun c => c.carriage.timer) (k.active.isSome && (k.state == .toPickup || k.state == .loaded)) fun c =>
    match c.carriage.active with
    | some t => (Ev.start c).faultCarriage t .timeout
    | none => Ev.start c

/-! ### Requests -/

/-- TRANSFER REQUEST from the fleet or plant agent (R77, R78). -/
def reqTransferRequest (l : Link) (robot dest : Nat) (c : Core) : Reply × Ev :=
  match (Ev.start c).transferRequest l .service none robot dest with
  | (.accepted n, e) => ({ result := .accepted, fields := .arrival n }, e)
  | (a, e) => (refuse (TransferAnswer.result a), e)

/-- CARRIAGE REPORT (R75). -/
def reqCarriageReport (position : Option Nat) (c : Core) : Reply × Ev :=
  let e := Ev.start c
  if position.any (fun r => !c.present r) then (refuse .badRow, e)
  else
    let e := e.modCarriage (fun k => { k with position := position })
    let e :=
      match c.carriage.state with
      | .idle =>
          if e.core.carriageParking then (e.modCarriage (fun k => { k with state := .secured })).sayCarriage else e
      | .secured =>
          if e.core.carriageParking then e
          else ((e.modCarriage (fun k => { k with state := .idle })).sayCarriage).grantConsideration
      | .toPickup | .loaded | .fault => e
    (refuse .done, e)

/-- CARRIAGE CLEAR (R88). One CARRIAGE_STATE tells of a carriage that becomes SECURED by it (R90; DESIGN CHOICE, log entry
31). -/
def reqCarriageClear (c : Core) : Reply × Ev :=
  let e := Ev.start c
  if c.carriage.state ≠ .fault then (refuse .state, e)
  else
    (refuse .done,
      ((e.modCarriage (fun k => { k with passenger := none, state := c.freeState })).sayCarriage).grantConsideration)

/-- CARRIAGE QUERY (R93). -/
def reqCarriageQuery (c : Core) : Reply :=
  { result := .done, fields := .carriage c.carriage c.carriage.queue.length }

end Sys2Proof.Machine
end

