-- ==== Sys2Proof/Machine/Rounds.lean ====
section
/-! DEFINITION. The Round Engine (R94 to R118): slots, claims, row choice, phases, pause and abort, endings, suspension. -/

namespace Sys2Proof.Machine

/-! ### Slots -/

/-- ROUND_STATE for a slot, once for the event (R117). It is handed over where the slot's record changes, before the notices of
what follows from the change (DESIGN CHOICE, log entry 15). -/
def Ev.sayRound (e : Ev) (k : Nat) : Ev := e.tellOnce (.roundState k)

/-- The requester link of a slot (R94). -/
def Slot.requester (s : Slot) : Link := s.link.getD .F

/-- The robot's zone is CLEAR, or the robot has no zone (R99 step 4, R115). -/
def Core.robotZoneClear (c : Core) (robot : Option Nat) : Bool :=
  match robot with
  | none => true
  | some i => (c.robotZone i).all c.zoneClear

/-- The robot's zone and the current row's zone are CLEAR (R102, R115). -/
def Core.slotZonesClear (c : Core) (s : Slot) : Bool :=
  c.robotZoneClear s.robot && s.current.all (fun p => c.rowClear p.1)

/-- The slot is SPAN. -/
def Slot.isSpan (s : Slot) : Bool :=
  match s.spec with
  | some (.span _ _ _) => true
  | some (.due _ _ _) | none => false

/-- The claim of slot `k` on a row released (R95). -/
def Ev.releaseClaim (e : Ev) (k r : Nat) : Ev :=
  e.modRow r (fun x => { x with claim := if x.claim = some k then none else x.claim })

/-- The completion test (R99 step 2): a SPAN round with nothing remaining, a DUE round at its row limit. -/
def Slot.complete (s : Slot) : Bool :=
  match s.spec with
  | some (.span _ _ _) => s.remaining == 0
  | some (.due _ limit _) => decide (limit ≤ s.cleaned + s.skipped)
  | none => true

/-- The slot's counts after a skip of row `r` (R102). -/
def Slot.countSkip (s : Slot) (r : Nat) : Slot :=
  if s.isSpan then { s with skipped := s.skipped + 1, remaining := s.remaining - 1 }
  else { s with skipped := s.skipped + 1, skipSet := s.skipSet ||| (1#96 <<< r) }

/-- The slot ends (R112). The evaluation of the triggers follows a release of a claim (R98). -/
def Ev.endSlot (e : Ev) (k : Nat) (reason : EndReason) : Ev :=
  let s := e.core.slot k
  let e := match s.current with
    | some (r, _) => e.releaseClaim k r
    | none => e
  let e := if reason = .robotLost then e else (e.withdrawEntries k).withdrawTransfer k
  let e := match s.robot with
    | some i => e.modRobot i (fun x => { x with round := none })
    | none => e
  let e := (e.modSlot k (fun s => { s with state := .ended, endReason := some reason, current := none })).sayRound k
  if s.current.isSome then e.hand .evalTriggers else e

/-- What a slot does with a hand-off (R94, R113): nothing when IDLE or ENDED, it ends ROBOT_LOST when its robot is LOST,
else `f`. -/
def Ev.toSlot (e : Ev) (k : Nat) (f : Slot → Ev) : Ev :=
  let s := e.core.slot k
  if s.state = .idle ∨ s.state = .ended then e
  else if s.robot.any (fun i => (e.core.robot i).state == .lost) then e.endSlot k .robotLost
  else f s

/-! ### Row choice (R99 to R101) -/

/-- The next candidate of a slot (R100): of a SPAN the row at its next index, of a DUE the first row of the due list that
lies in the mask, carries no claim and is not in the skip set. -/
def Core.candidate (c : Core) (s : Slot) : Option Nat :=
  match s.spec with
  | some (.span start _ .ascending) => some (start + s.nextIndex)
  | some (.span start _ .descending) => some (start - s.nextIndex)
  | some (.due mask _ _) =>
      c.dueList.find? (fun r =>
        mask.getLsbD (c.zoneOf r) && (c.row r).claim.isNone && !s.skipSet.getLsbD r)
  | none => none

/-- How a candidate fares (R101). -/
inductive Verdict where
  | skip | hold | claim
  deriving DecidableEq, Repr

/-- The tests of a candidate in their order (R101). -/
def Core.verdict (c : Core) (s : Slot) (r : Nat) : Verdict :=
  if (c.decode s.requester .round r).isSome then .skip
  else if s.isSpan ∧ (c.row r).claim.isSome then .skip
  else if !c.rowClear r then .hold
  else if (c.stationOccupant r).any (fun i => decide (s.robot ≠ some i))
      || (c.row r).inbound.any (fun i => decide (s.robot ≠ some i)) then .skip
  else if (c.occupancy r).any (fun i => decide (s.robot ≠ some i)) then .skip
  else .claim

/-- A row claimed as the slot's current row in SEEKING (R95, R101). ROUND_STATE stands before the notices of the SEEKING test,
which R101 names first (DESIGN CHOICE, log entry 15). -/
def Ev.claimRow (e : Ev) (k r : Nat) (state : SlotState) : Ev :=
  ((e.modRow r (fun x => { x with claim := some k })).modSlot k
    (fun s => { s with current := some (r, .seeking), state := state })).sayRound k

/-- Candidates taken one after another until one is claimed, the slot suspends or the round ends (R99 to R101). A round
takes at most 96 rows (R97): the first argument counts down from 97. -/
def Ev.takeCandidates : Nat → Nat → Ev → Ev
  | 0, _, e => e
  | n + 1, k, e =>
      let s := e.core.slot k
      match e.core.candidate s with
      | none => e.endSlot k .noRows
      | some r =>
          let e := e.modSlot k (fun s => if s.isSpan then { s with nextIndex := s.nextIndex + 1 } else s)
          match e.core.verdict s r with
          | .hold => e.claimRow k r .suspended
          | .claim => (e.claimRow k r .running).hand (.seekingTest k)
          | .skip =>
              let e := (e.modSlot k (fun s => s.countSkip r)).sayRound k
              if (e.core.slot k).complete then e.endSlot k .complete else Ev.takeCandidates n k e

/-- The battery test fails (R99 step 3): a recorded battery below BATT_MIN. -/
def Core.lowBattery (c : Core) (robot : Option Nat) : Bool :=
  robot.any (fun i => (c.robot i).battery.any (fun b => decide (b < c.cfg.battMin)))

/-- A row choice of slot `k` (R99). -/
def Ev.chooseRow (e : Ev) (k : Nat) : Ev :=
  e.toSlot k fun s =>
    if s.state ≠ .running ∨ s.current.isSome then e
    else if s.pausePending then
      (e.modSlot k (fun s => { s with state := .paused, pausePending := false })).sayRound k
    else if s.complete then e.endSlot k .complete
    else if e.core.lowBattery s.robot then e.endSlot k .lowBattery
    else if !e.core.robotZoneClear s.robot then (e.modSlot k (fun s => { s with state := .suspended })).sayRound k
    else Ev.takeCandidates 97 k e

/-! ### Skipping and suspending -/

/-- The slot suspends with its claim and phase SEEKING (R102, R114). -/
def Ev.suspend (e : Ev) (k : Nat) : Ev :=
  (e.modSlot k (fun s => { s with
    state := .suspended, current := s.current.map (fun p => (p.1, .seeking)) })).sayRound k

/-- A failure of the current row: the suspension test, else the row is skipped and the slot chooses again (R102). ROUND_STATE
stands before the notices of the choice, which R102 names first (DESIGN CHOICE, log entry 15). -/
def Ev.failRow (e : Ev) (k : Nat) : Ev :=
  let s := e.core.slot k
  match s.current with
  | none => e
  | some (r, _) =>
      if !e.core.slotZonesClear s then e.suspend k
      else
        let e := e.releaseClaim k r
        let e := if (e.core.row r).pending.any (fun p => p.origin == .slot k) then e.dropEntry r .withdrawn else e
        ((e.modSlot k (fun s => { s.countSkip r with current := none })).sayRound k).handAll
          [.chooseRow k, .evalTriggers]

/-! ### The phases (R103 to R107) -/

/-- The slot's phase changed (R117). -/
def Ev.setPhase (e : Ev) (k r : Nat) (p : RowPhase) : Ev :=
  (e.modSlot k (fun s => { s with current := some (r, p) })).sayRound k

/-- The slot goes to IN_PASS and orders its robot onto the row (R105, R106). ROUND_STATE stands before ROBOT_ORDER GO_ROW, which
R106 names first (DESIGN CHOICE, log entry 15). -/
def Ev.goRow (e : Ev) (k r : Nat) : Ev :=
  let e := e.setPhase k r .inPass
  match (e.core.slot k).robot with
  | some i => e.order i .goRow (some r)
  | none => e

/-- The slot's entry request and what it does with the answer (R105). -/
def Ev.issueEntry (e : Ev) (k r : Nat) : Ev :=
  let s := e.core.slot k
  match s.robot with
  | none => e
  | some i =>
      let (a, e) := e.entryRequest s.requester (.slot k) i r
      match a with
      | .granted => e.goRow k r
      | .accepted => e
      | .census | .stowed | .zoneParking => if e.core.slotZonesClear s then e else e.suspend k
      | .decode _ | .badRobot | .wrongPermit | .notAtStation | .occupied | .claimed | .inTransfer => e.failRow k

/-- The slot enters WAITING_ENTRY and issues its entry request (R103 case 1, R104, R105). -/
def Ev.waitEntry (e : Ev) (k r : Nat) : Ev := (e.setPhase k r .waitingEntry).issueEntry k r

/-- The slot's ROUND transfer and what it does with the answer (R104). -/
def Ev.submitTransfer (e : Ev) (k r i : Nat) : Ev :=
  let s := e.core.slot k
  let (a, e) := e.transferRequest s.requester .round (some k) i r
  match a with
  | .accepted _ | .notParked | .inTransfer | .throttled | .full => e
  | .decode _ | .badRobot | .stationOccupied | .stationTargeted => e.failRow k

/-- The SEEKING test (R103). -/
def Ev.seekingTest (e : Ev) (k : Nat) : Ev :=
  e.toSlot k fun s =>
    match s.state, s.current, s.robot with
    | .running, some (r, .seeking), some i =>
        let x := e.core.robot i
        if x.station = some r then e.waitEntry k r
        else if e.core.carriage.carries i then e
        else if x.state = .parked ∧ e.core.carriage.throttle = false then e.submitTransfer k r i
        else e
    | _, _, _ => e

/-- A SUSPENDED slot whose zones are all CLEAR resumes (R115). -/
def Ev.resumeTest (e : Ev) (k : Nat) : Ev :=
  e.toSlot k fun s =>
    if s.state = .suspended ∧ e.core.slotZonesClear s = true then
      let e := (e.modSlot k (fun s => { s with state := .running })).sayRound k
      e.hand (if s.current.isSome then .seekingTest k else .chooseRow k)
    else e

/-- The robot's new place reaches its slot (R103, R105, R107, R115). -/
def Ev.roundPlace (e : Ev) (i : Nat) : Ev :=
  match (e.core.robot i).round with
  | none => e
  | some k => e.toSlot k fun s =>
      if s.robot ≠ some i then e
      else match s.state, s.current with
        | .suspended, _ => e.hand (.resumeTest k)
        | .running, some (_, .seeking) => e.hand (.seekingTest k)
        | .running, some (r, .waitingEntry) =>
            if (e.core.robot i).station = some r then e
            else if (e.core.robot i).panelRow = some r then
              if (e.core.row r).pending.isNone then e.setPhase k r .inPass else e
            else e.failRow k
        | .running, some (r, .inPass) => if (e.core.robot i).panelRow = some r then e else e.failRow k
        | _, _ => e

/-- The robot's loss reaches its slot (R113). -/
def Ev.roundLost (e : Ev) (i : Nat) : Ev :=
  match (e.core.robot i).round with
  | none => e
  | some k => e.toSlot k fun s => if s.robot = some i then e.endSlot k .robotLost else e

/-- A pass completion (R108): credited in whatever phase the slot holds the row, SUSPENDED included. -/
def Ev.roundPass (e : Ev) (i row : Nat) : Ev :=
  match (e.core.robot i).round with
  | none => e
  | some k => e.toSlot k fun s =>
      match s.current with
      | none => e
      | some (r, _) =>
          if s.robot ≠ some i ∨ r ≠ row then e
          else
            let e := ((e.releaseClaim k r).modSlot k (fun s => { s with
              cleaned := s.cleaned + 1
              remaining := if s.isSpan then s.remaining - 1 else s.remaining
              current := none })).sayRound k
            if s.state = .running then e.handAll [.chooseRow k, .evalTriggers] else e.hand .evalTriggers

/-- An ENTRY_GRANT whose origin is slot `k` (R106). -/
def Ev.entryGranted (e : Ev) (k r : Nat) : Ev :=
  e.toSlot k fun s =>
    if s.state = .running ∧ s.current = some (r, .waitingEntry) then e.goRow k r else e

/-- An ENTRY_FAILED whose origin is slot `k` (R106). -/
def Ev.entryFailed (e : Ev) (k r : Nat) : Ev :=
  e.toSlot k fun s =>
    if s.state = .running ∧ (s.current = some (r, .waitingEntry) ∨ s.current = some (r, .inPass)) then e.failRow k
    else e

/-- The slot waits on row `r` in WAITING_ENTRY with no entry pending (R105). -/
def Core.waitsOn (c : Core) (k r : Nat) : Bool :=
  (c.slot k).state == .running && (c.slot k).current == some (r, .waitingEntry) && (c.row r).pending.isNone

/-- A permit change of a claimed row (R105): a slot that waits there with no entry pending issues its request again. -/
def Ev.permitChanged (e : Ev) (r : Nat) : Ev :=
  match (e.core.row r).claim with
  | none => e
  | some k => e.toSlot k fun _ => if e.core.waitsOn k r then e.issueEntry k r else e

/-- The end of the census (R105): each slot that waits with no entry pending issues its request again, in ascending slot
number and before what follows from the first request is delivered (DESIGN CHOICE, log entry 35). -/
def Ev.censusEnded (e : Ev) : Ev :=
  e.each slotNumbers fun k e =>
    match (e.core.slot k).current with
    | some (r, _) => e.toSlot k fun _ => if e.core.waitsOn k r then e.issueEntry k r else e
    | none => e

/-- The end of a ROUND transfer of slot `k` with robot `i` to row `r` (R104). The transfer of a robot that is not the slot's
belongs to a round that has ended (R94, R112). -/
def Ev.transferEnded (e : Ev) (k i r : Nat) (o : TransferOutcome) : Ev :=
  if (e.core.slot k).robot ≠ some i then e
  else e.toSlot k fun s =>
    if s.state = .running ∧ s.current = some (r, .seeking) then
      if o = .done then e.waitEntry k r else e.failRow k
    else e

/-- The end of a SERVICE transfer of a round's robot (R104): the SEEKING test again. -/
def Ev.serviceEnded (e : Ev) (i : Nat) : Ev :=
  match (e.core.robot i).round with
  | none => e
  | some k => e.hand (.seekingTest k)

/-- The slots, in ascending number, that are RUNNING in SEEKING. -/
def Core.seekingSlots (c : Core) : List Nat :=
  slotNumbers.filter (fun k =>
    (c.slot k).state == .running && (c.slot k).current.any (fun p => p.2 == .seeking))

/-- The throttle-cleared hand-off (R103, R116). -/
def Ev.throttleCleared (e : Ev) : Ev := e.handAll (e.core.seekingSlots.map Handoff.seekingTest)

/-! ### Triggers (R98) -/

/-- The rows that count for a trigger: due, in a zone of the mask, unclaimed (R98). -/
def Core.dueCount (c : Core) (mask : Set8) : Nat :=
  (c.dueList.filter (fun r => mask.getLsbD (c.zoneOf r) && (c.row r).claim.isNone)).length

/-- The trigger of slot `k` evaluated (R98). -/
def Ev.evalTrigger (e : Ev) (k : Nat) : Ev :=
  e.toSlot k fun s =>
    match s.state, s.spec with
    | .armed, some (.due mask _ (.dueCount n)) =>
        if n ≤ e.core.dueCount mask then
          ((e.modSlot k (fun s => { s with state := .running })).sayRound k).hand (.chooseRow k)
        else e
    | _, _ => e

/-- The triggers of the ARMED slots evaluated in ascending slot number, each whole before the next (R98). -/
def Ev.evalTriggers (e : Ev) : Ev :=
  e.handAll ((slotNumbers.filter (fun k => (e.core.slot k).state == .armed)).map Handoff.evalTrigger)

/-! ### Zones (R114, R115) -/

/-- Zone parked at the Round Engine (R114). ROUND_STATE stands before the ENTRY_FAILED and PERMIT of the withdrawn entry, which
R114 lists first (DESIGN CHOICE, log entry 15). -/
def Ev.roundZoneParked (e : Ev) (z : Nat) : Ev :=
  e.each slotNumbers fun k e =>
    let s := e.core.slot k
    if s.state = .running ∧ (s.robot.any (fun i => e.core.robotZone i == some z) = true
        ∨ s.current.any (fun p => e.core.zoneOf p.1 == z) = true) then
      (e.suspend k).withdrawEntries k
    else e

/-- Zone cleared at the Round Engine (R115). -/
def Ev.roundZoneCleared (e : Ev) : Ev :=
  e.handAll ((slotNumbers.filter (fun k => (e.core.slot k).state == .suspended)).map Handoff.resumeTest)

/-! ### Requests (R96, R97, R109 to R111, R118) -/

/-- The numbers of a round brought into range (R97). -/
def clampSpec (rows : Nat) : RoundSpec → RoundSpec
  | .span start count .ascending => .span start (min (clampNat 1 96 count) (rows - start)) .ascending
  | .span start count .descending => .span start (min (clampNat 1 96 count) (start + 1)) .descending
  | .due mask limit (.dueCount k) => .due mask (clampNat 1 96 limit) (.dueCount (clampNat 1 96 k))
  | .due mask limit .immediate => .due mask (clampNat 1 96 limit) .immediate

/-- The span of a round starts at a row that is not present (R96 check 3). -/
def Core.spanOutside (c : Core) : RoundSpec → Bool
  | .span start _ _ => !c.present start
  | .due _ _ _ => false

/-- ROUND START (R96, R97), after the form and link tests. -/
def reqRoundStart (l : Link) (k i : Nat) (spec : RoundSpec) (c : Core) : Reply × Ev :=
  let e := Ev.start c
  let s := c.slot k
  let x := c.robot i
  if !c.installed i then (refuse .badRobot, e)
  else if c.spanOutside spec then (refuse .badRow, e)
  else if s.state ≠ .idle ∧ s.state ≠ .ended then (refuse .busy, e)
  else if x.state ≠ .parked then (refuse .state, e)
  else if x.round.isSome then (refuse .state, e)
  else if c.carriage.carries i then (refuse .state, e)
  else
    let spec' := clampSpec c.cfg.rows spec
    let armed := match spec' with
      | .due _ _ (.dueCount _) => true
      | .due _ _ .immediate | .span _ _ _ => false
    let slot : Slot :=
      { state := if armed then .armed else .running
        spec := some spec'
        robot := some i
        link := some l
        remaining := match spec' with
          | .span _ count _ => count
          | .due _ _ _ => 0 }
    let e := ((e.modSlot k (fun _ => slot)).modRobot i (fun x => { x with round := some k })).sayRound k
    ({ result := if spec' = spec then .accepted else .clamped, fields := .none },
      e.hand (if armed then .evalTrigger k else .chooseRow k))

/-- The F-link cannot pause, resume or abort a slot started from the P-link (R109). -/
def Slot.foreign (s : Slot) (l : Link) : Bool := l == .F && s.link != some .F

/-- ROUND PAUSE (R109). -/
def reqRoundPause (l : Link) (k : Nat) (c : Core) : Reply × Ev :=
  let e := Ev.start c
  let s := c.slot k
  if s.foreign l then (refuse .state, e)
  else match s.state with
    | .running | .suspended =>
        (refuse .accepted,
          if s.pausePending then e else (e.modSlot k (fun s => { s with pausePending := true })).sayRound k)
    | .paused => (refuse .done, e)
    | .idle | .armed | .ended => (refuse .state, e)

/-- ROUND RESUME (R110). -/
def reqRoundResume (l : Link) (k : Nat) (c : Core) : Reply × Ev :=
  let e := Ev.start c
  let s := c.slot k
  if s.foreign l then (refuse .state, e)
  else match s.state with
    | .paused =>
        (refuse .done, ((e.modSlot k (fun s => { s with state := .running })).sayRound k).hand (.chooseRow k))
    | .running | .suspended =>
        (refuse .done,
          if s.pausePending then (e.modSlot k (fun s => { s with pausePending := false })).sayRound k else e)
    | .idle | .armed | .ended => (refuse .state, e)

/-- ROUND ABORT (R111). -/
def reqRoundAbort (l : Link) (k : Nat) (c : Core) : Reply × Ev :=
  let e := Ev.start c
  let s := c.slot k
  if s.foreign l then (refuse .state, e)
  else match s.state with
    | .armed | .running | .paused | .suspended =>
        let e := match s.robot with
          | some i =>
              if (c.robot i).state = RobotState.cleaning ∧ c.robotZoneClear (some i) = true then e.orderHere i .ret else e
          | none => e
        (refuse .done, e.endSlot k .aborted)
    | .idle | .ended => (refuse .state, e)

/-- A slot as ROUND QUERY returns it (R94, R118): a next index for a SPAN round alone, which no slot in IDLE holds, and no
remaining count for a DUE round. The skip set of a slot that is not DUE, of which R118 does not speak, is an empty map
(DESIGN CHOICE, log entry 40). -/
def Slot.entry (s : Slot) : SlotEntry where
  state := s.state
  endReason := s.endReason
  spec := s.spec
  robot := s.robot
  link := s.link
  nextIndex := if s.isSpan then some s.nextIndex else none
  skipMap := rowSetBytes s.skipSet
  current := s.current
  cleaned := s.cleaned
  skipped := s.skipped
  remaining := if s.kind = some .due then none else some s.remaining
  pausePending := s.pausePending

/-- ROUND QUERY (R118). -/
def reqRoundQuery (c : Core) : Reply := { result := .done, fields := .rounds (c.slots.toList.map Slot.entry) }

end Sys2Proof.Machine
end

