-- ==== Sys2Proof/Machine/RowTable.lean ====
section
/-! DEFINITION. The Row Table's requests (R6, R7, R10, R16, R17): the decode and the counts of a TRACKER REPORT, and
PERMIT QUERY. -/

namespace Sys2Proof.Machine

/-- The answer of the decode of an entry for row `r` (R7, R46): nothing for an entry that passes. The link-enable check is not
part of it, since it is applied once to the request as a whole. -/
def Core.entryAnswer (c : Core) (r : Nat) : Option Result :=
  if !c.present r then some .badRow else c.cfg.windowAnswer .T .report r

/-- The counts of a batch (R7, R10): the entries applied, those refused by each answer, and the applied entries whose angle
was clamped. -/
structure BatchCounts where
  applied : Nat := 0
  badRow : Nat := 0
  notMapped : Nat := 0
  denied : Nat := 0
  clamped : Nat := 0
  deriving DecidableEq, Repr

/-- The counts with an entry counted under the answer its own decode gave (R46). An entry's decode has no other answers. -/
def BatchCounts.add (n : BatchCounts) (x : TrackerEntry) : Option Result → BatchCounts
  | none => { n with applied := n.applied + 1, clamped := n.clamped + (angleClamped x.angle).toNat }
  | some .badRow => { n with badRow := n.badRow + 1 }
  | some .notMapped => { n with notMapped := n.notMapped + 1 }
  | some .denied => { n with denied := n.denied + 1 }
  | some _ => n

/-- The reply to a TRACKER REPORT (R7, R10). -/
def BatchCounts.reply (n : BatchCounts) : Reply :=
  { result := doneOr (decide (0 < n.clamped)), fields := .tracker n.applied n.badRow n.notMapped n.denied n.clamped }

/-- A row in SUMMARY form (R16). -/
def Core.rowSummary (c : Core) (r : Nat) : RowSummary :=
  let x := c.row r
  { permit := x.permit
    tracker := x.tracker
    forced := x.forced
    breach := x.breach
    silent := x.silent
    occupied := !(c.occupancy r).isEmpty
    pending := x.pending.isSome
    inWindow := c.inWindow r }

/-- A row in DETAIL form (R17). -/
def Core.rowDetail (c : Core) (r : Nat) : RowDetail :=
  let x := c.row r
  { row := r
    zone := c.zoneOf r
    permit := x.permit
    forced := x.forced
    breach := x.breach
    silent := x.silent
    tracker := x.tracker
    angle := x.angle
    age := x.age
    pending := x.pending.map (·.robot)
    occupant := c.occupant r
    stationOccupant := c.stationOccupant r
    inbound := x.inbound
    claim := x.claim }

/-- PERMIT QUERY (R16, R17), after the form and link tests. -/
def reqPermitQuery (first count : Nat) (form : QueryForm) (c : Core) : Reply :=
  if !c.present first then refuse .badRow
  else match form with
    | .summary =>
        let n := queryCount 96 c.cfg.rows first count
        { result := doneOr (n != count)
          fields := .summaries first n ((List.range n).map (fun i => c.rowSummary (first + i))) }
    | .detail =>
        let n := queryCount 16 c.cfg.rows first count
        { result := doneOr (n != count)
          fields := .details first n ((List.range n).map (fun i => c.rowDetail (first + i))) }

end Sys2Proof.Machine
end

