-- ==== Sys2Proof/Machine/Wind.lean ====
section
/-! DEFINITION. The Wind Monitor, the LINE filter and the hazard records (R119 to R134). -/

namespace Sys2Proof.Machine

/-! ### Causes and latches (R128) -/

/-- The record after its cause is made present at level `l`, or brought to it (R128). -/
def HazardRec.withCause (x : HazardRec) (l : Sev) : HazardRec :=
  let rises := decide (rank x.cause < rank (some l))
  let latches := rises && !x.latched && (x.cause.isSome || !x.rearm)
  let raises := rises && x.latched && (x.cause.isSome || decide (rank x.level < rank (some l)))
  { cause := some l
    latched := x.latched || latches
    level := if latches || raises then some l else x.level
    ackPending := x.ackPending && !(latches || raises)
    rearm := x.rearm && !latches }

/-- The record after its cause goes absent (R128). -/
def HazardRec.withoutCause (x : HazardRec) : HazardRec := { x with cause := none, rearm := false }

/-- The zones of a map in ascending order. -/
def zonesOf (m : Set8) : List Nat := zoneNumbers.filter (fun z => m.getLsbD z)

/-- A record replaced, with the zone evaluation of its map before the HAZARD notice when its latch or its level changed
(R133). -/
def Ev.putHazard (e : Ev) (h : Hazard) (x : HazardRec) : Ev :=
  let old := e.core.hazard h
  if x = old then e
  else
    let e := e.mod (fun c => c.setHazard h x)
    let zones := if x.latched = old.latched ∧ x.level = old.level then [] else zonesOf (e.core.cfg.map h)
    e.handAll (zones.map (fun z => Handoff.evalZone z (x.latched != old.latched)) ++ [.announceHazard h])

/-- A cause made present at level `l` (R125 to R128). -/
def Ev.setCause (e : Ev) (h : Hazard) (l : Sev) : Ev := e.putHazard h ((e.core.hazard h).withCause l)

/-- A cause made absent (R128). -/
def Ev.clearCause (e : Ev) (h : Hazard) : Ev := e.putHazard h (e.core.hazard h).withoutCause

/-! ### The Wind Monitor -/

/-- A rising edge on a channel's pin (R119). -/
def WindChannel.pulse (x : WindChannel) : WindChannel :=
  if x.enabled then { x with count := min 65535 (x.count + 1) } else x

/-- A rising edge on ANEM0 or ANEM1 (R119). -/
def anemPulse (ch : Channel) (c : Core) : Core :=
  match ch with
  | .anem0 => { c with wind := { c.wind with c0 := c.wind.c0.pulse } }
  | .anem1 => { c with wind := { c.wind with c1 := c.wind.c1.pulse } }

/-- The speed of a window in tenths of a metre per second (R120). -/
def speedOf (pulses cal : Nat) : Nat := min 999 (pulses * cal / 100)

/-- A channel at a wind evaluation (R119, R120), with the enable and calibration items in force. -/
def WindChannel.evaluate (x : WindChannel) (enable : Bool) (cal : Nat) : WindChannel :=
  if !enable then { enabled := false }
  else if !x.enabled then {}
  else
    let s := speedOf x.count cal
    { enabled := true, count := 0, s1 := x.s2, s2 := x.s3, s3 := s, gust := (x.s2 + x.s3 + s) / 3 }

/-- A run count after an evaluation (R122). -/
def runAfter (run gust threshold : Nat) : Nat := if threshold ≤ gust then min 2 (run + 1) else 0

/-- The hold count after an evaluation with the cause present, before it is compared with WIND_HOLD (R123). -/
def holdAfter (hold gust windRel : Nat) : Nat := if gust < windRel then min 3600 (hold + 1) else 0

/-- The Wind Monitor after an evaluation, the WIND cause being present or not before it (R119, R120, R122, R123). The
flag says that the hold count has reached WIND_HOLD. -/
def Wind.evaluate (w : Wind) (s : Settings) (present : Bool) : Wind × Bool :=
  let c0 := w.c0.evaluate s.anem0 s.cal0
  let c1 := w.c1.evaluate s.anem1 s.cal1
  let gust := max c0.gust c1.gust
  let hold := if present then holdAfter w.hold gust s.windRel else 0
  let gone := present && decide (s.windHold ≤ hold)
  ({ c0 := c0
     c1 := c1
     gust := gust
     parkRun := runAfter w.parkRun gust s.windPark
     critRun := runAfter w.critRun gust s.windCrit
     hold := if gone then 0 else hold }, gone)

/-- The WIND cause after the run counts of an evaluation (R122): a present cause only rises to CRITICAL. -/
def Ev.windCause (e : Ev) : Ev :=
  let w := e.core.wind
  let cause := (e.core.hazard .wind).cause
  if w.critRun = 2 then (if cause = some .critical then e else e.setCause .wind .critical)
  else if w.parkRun = 2 then (if cause = none then e.setCause .wind .park else e)
  else e

/-- The wind evaluation of a seconds tick, with the seconds of that tick where no expiry has counted them before it (R11, R119
to R123, log entry 6). A cause that goes and returns in one evaluation does so in that order (R123). -/
def windEvaluation (c : Core) : Ev :=
  let (w, gone) := c.wind.evaluate c.cfg (c.hazard .wind).cause.isSome
  let e := Ev.start { c.counted with wind := w, ticked := false }
  let e := if gone then e.clearCause .wind else e
  e.windCause

/-! ### The LINE filter (R127) -/

/-- A sample disagrees with the LINE cause: low with an absent one, high with a present one. -/
def disagrees (high present : Bool) : Bool := high == present

/-- The cause that a sample's level gives: low present, high absent. -/
def Ev.lineCause (e : Ev) (high : Bool) : Ev :=
  if high then e.clearCause .line else e.setCause .line e.core.cfg.lineLevel

/-- A 100 ms sample of HAZ_N (R127): the strap takes the first one after a full reset alone. -/
def hazNSample (high : Bool) (c : Core) : Ev :=
  let x := c.line
  if x.strapDue then
    let e := Ev.start { c with line := { disagree := 0, lastHigh := high, strapDue := false } }
    if high then e else e.lineCause false
  else if disagrees high (c.hazard .line).cause.isSome then
    if 1 ≤ x.disagree then (Ev.start { c with line := { x with disagree := 0, lastHigh := high } }).lineCause high
    else Ev.start { c with line := { x with disagree := 1, lastHigh := high } }
  else Ev.start { c with line := { x with disagree := 0, lastHigh := high } }

/-! ### Review (R129, R130) -/

/-- The clearing mode clears the record at a review boundary (R130). -/
def HazardRec.clears (x : HazardRec) (m : ClearMode) : Bool :=
  x.latched && match m with
    | .auto => x.cause.isNone
    | .ack => x.ackPending
    | .ackGone => x.ackPending && x.cause.isNone

/-- A cleared record (R130): re-arm is set when the cause is present. -/
def HazardRec.cleared (x : HazardRec) : HazardRec :=
  { cause := x.cause, latched := false, level := none, ackPending := false, rearm := x.cause.isSome }

/-- The hazards that the boundary clears (R130). -/
def Core.reviewClears (c : Core) : List Hazard := Hazard.all.filter (fun h => (c.hazard h).clears (c.cfg.mode h))

/-- The review timer expires (R129, R130): all clears are made before the zones are evaluated (R136). The HAZARD notices of
several cleared hazards stand in the order WIND, PLANT, TRACKER, LINE (DESIGN CHOICE, log entry 35). The boundary comes before
the wind evaluation of its seconds tick or after it, as the sender orders the two (R130, log entry 6). -/
def hazardReview (c : Core) : Ev :=
  c.atExpiry (fun c => c.review) true fun c =>
    let gone := c.reviewClears
    let c1 := gone.foldl (fun c h => c.setHazard h (c.hazard h).cleared) { c with review := some c.cfg.review }
    let zones := zoneNumbers.filter (fun z => gone.any (fun h => (c.cfg.map h).getLsbD z))
    (Ev.start c1).handAll (zones.map (fun z => Handoff.evalZone z true) ++ gone.map Handoff.announceHazard)

/-! ### Requests -/

/-- The reply of the cause requests: the record after the request (R125, R126). -/
def Ev.causeReply (e : Ev) (h : Hazard) : Reply × Ev :=
  let x := e.core.hazard h
  ({ result := .done, fields := .hazardRecord x.cause x.latched x.level }, e)

/-- PARK ORDER (R125), after the form test. -/
def reqParkOrder (l : Sev) (c : Core) : Reply × Ev := ((Ev.start c).setCause .plant l).causeReply .plant

/-- PARK RELEASE (R125). -/
def reqParkRelease (c : Core) : Reply × Ev := ((Ev.start c).clearCause .plant).causeReply .plant

/-- STOW ALL (R126). -/
def reqStowAll (c : Core) : Reply × Ev := ((Ev.start c).setCause .tracker .critical).causeReply .tracker

/-- STOW ALL END (R126). -/
def reqStowAllEnd (c : Core) : Reply × Ev := ((Ev.start c).clearCause .tracker).causeReply .tracker

/-- HAZARD ACK (R131), after the form test. -/
def reqHazardAck (h : Hazard) (c : Core) : Reply × Ev :=
  let x := c.hazard h
  if !x.latched then (refuse .state, Ev.start c)
  else
    let e := (Ev.start c).putHazard h { x with ackPending := true }
    ({ result := .done, fields := .ackRecord x.latched x.level x.cause true }, e)

/-- HAZARD QUERY (R134). -/
def reqHazardQuery (c : Core) : Reply :=
  { result := .done
    fields := .hazards (Hazard.all.map (fun h => { record := c.hazard h, mode := c.cfg.mode h, map := c.cfg.map h }))
      c.review c.wind c.line.lastHigh c.line.disagree }

end Sys2Proof.Machine
end

