-- ==== Sys2Proof/Machine/Yield.lean ====
section
/-! DEFINITION. The Yield Accounting Unit (R153 to R171): settlement, soiling index, due flags, coefficient sets, cleaning
credit, account requests. -/

namespace Sys2Proof.Machine

/-! ### The arithmetic of a row (R155 to R160) -/

/-- floor((H × K + 128) / 256), at most 65535 (R155). -/
def expected (h k : Nat) : Nat := min 65535 ((h * k + 128) / 256)

/-- The figures one interval gives a row: T, E, surplus and the three parts of the deficit (R155, R156). -/
structure Figures where
  t : Nat
  e : Nat
  surplus : Nat
  soil : Nat
  clean : Nat
  stow : Nat
  deriving DecidableEq, Repr

/-- The division of an interval by the row's mode latch (R155, R156). -/
def figures (h kTrack kAlt e : Nat) (latch : Mode) : Figures :=
  let t := expected h kTrack
  let a := min (expected h kAlt) t
  let d := t - e
  let held := min d (t - a)
  match latch with
  | .tracking => { t := t, e := e, surplus := e - t, soil := d, clean := 0, stow := 0 }
  | .held => { t := t, e := e, surplus := e - t, soil := d - held, clean := held, stow := 0 }
  | .stowed => { t := t, e := e, surplus := e - t, soil := d - held, clean := 0, stow := held }

/-- The seven accumulators with an interval added (R157). -/
def Account.add (a : Account) (f : Figures) : Account :=
  { a with
    eExp := a.eExp + f.t
    eMeas := a.eMeas + f.e
    surplus := a.surplus + f.surplus
    soil := a.soil + f.soil
    clean := a.clean + f.clean
    stow := a.stow + f.stow
    intervals := a.intervals + 1 }

/-- The largest value of an accumulator (R158). -/
def accumulatorMax : Nat := 4294967295

/-- Every accumulator holds its value in 32 bits (R158). -/
def Account.fits (a : Account) : Bool :=
  decide (a.eExp ≤ accumulatorMax) && decide (a.eMeas ≤ accumulatorMax) && decide (a.surplus ≤ accumulatorMax)
    && decide (a.soil ≤ accumulatorMax) && decide (a.clean ≤ accumulatorMax) && decide (a.stow ≤ accumulatorMax)
    && decide (a.intervals ≤ accumulatorMax)

/-- An interval settled into an account (R157, R158): a frozen account takes nothing, an addition that would overflow
freezes it. -/
def Account.settle (a : Account) (f : Figures) : Account :=
  if a.frozen then a
  else if (a.add f).fits then a.add f
  else { a with frozen := true }

/-- The loss of an interval per mille (R159 step 1): `t` is not 0. -/
def lossOf (e t : Nat) : Nat := 1000 - min 1000 (e * 1000 / t)

/-- The soiling index moved toward a loss (R159 steps 2 to 4). -/
def slToward (sl loss w : Nat) : Nat :=
  let delta : Int := (loss : Int) - (sl : Int)
  let step := Int.tdiv (delta * w) 16
  let step := if step = 0 ∧ delta ≠ 0 then (if 0 < delta then 1 else -1) else step
  ((sl : Int) + step).toNat

/-- The soiling index after a settled interval (R159). -/
def slAfter (co : CoeffSet) (latch : Mode) (mixed : Bool) (f : Figures) (sl : Nat) : Nat :=
  if latch = .tracking ∧ mixed = false ∧ co.eMin ≤ f.t then slToward sl (lossOf f.e f.t) co.w else sl

/-- The due flag evaluated (R160). -/
def dueAfter (co : CoeffSet) (due : Bool) (sl : Nat) : Bool :=
  if due then !decide (sl < co.dueOff) else decide (co.dueOn ≤ sl)

/-- One settled row processed (R154 step 1). -/
def settleRow (co : CoeffSet) (h : Nat) (c : Core) (re : Nat × Nat) : Core :=
  let (r, energy) := re
  let x := c.row r
  let f := figures h (co.track r) (co.alt r) energy x.latch
  let sl := slAfter co x.latch x.mixed f (c.account r).sl
  (c.modAccount r (fun a => { a.settle f with sl := sl })).modRow r (fun x => { x with due := dueAfter co x.due sl })

/-! ### The settlement (R153, R154) -/

/-- The rows a report names with their energies. -/
def namedRows (first : Nat) (energies : List Nat) : List (Nat × Nat) :=
  (List.range energies.length).zipWith (fun i e => (first + i, e)) energies

/-- The mode latch of every present row retaken and its mixed flag cleared (R163). -/
def Core.retakeLatches (c : Core) (mixed : Bool) : Core :=
  { c with rows := c.rows.mapIdx (fun r x => if c.present r then { x with latch := x.mode, mixed := mixed } else x) }

/-- The load counter advances, and a load opportunity is handled (R166). -/
def Core.loadOpportunity (c : Core) : Bool × Core :=
  if c.loadCounter + 1 = c.coActive.loadEvery then
    if c.commit then (true, { c with loadCounter := 0, coActive := c.coPending, commit := false })
    else (false, { c with loadCounter := 0 })
  else (false, { c with loadCounter := (c.loadCounter + 1) % 16 })

/-- The rows among `rs` whose due flag differs between two cores, in ascending order (R161). -/
def dueChanges (c0 c1 : Core) (rs : List Nat) : List Nat := rs.filter (fun r => (c0.row r).due != (c1.row r).due)

/-- DUE_CHANGE of a row as it stands (R161). -/
def Core.dueNotice (c : Core) (r : Nat) : Notice := .dueChange r (c.account r).sl (c.row r).due

/-- INTERVAL REPORT (R153, R154), after the form test. -/
def reqIntervalReport (irradiation first : Nat) (energies : List Nat) (c : Core) : Reply × Ev :=
  let h := min 4095 irradiation
  let named := namedRows first energies
  let present := named.filter (fun re => c.present re.1)
  let missing := present.filter (fun re => re.2 == 65535)
  let settled := present.filter (fun re => re.2 != 65535)
  let rows := settled.map (·.1)
  let c1 := settled.foldl (settleRow c.coActive h) c
  let frozen := rows.filter (fun r => (c1.account r).frozen)
  let newlyFrozen := frozen.filter (fun r => !(c.account r).frozen)
  let changed := dueChanges c c1 rows
  let (load, c2) := (c1.retakeLatches false).loadOpportunity
  let c3 := { c2 with store := { c2.store with interval := c2.store.interval + 1 } }
  ({ result := doneOr (decide (4095 < irradiation))
     fields := .settlement c3.store.interval settled.length missing.length (named.length - present.length)
       frozen.length load },
    (Ev.start c3).handAll
      (changed.map (fun _ => Handoff.dueChanged)
        ++ [.announce (newlyFrozen.map (fun r => Notice.accountFrozen r c.store.interval)
          ++ changed.map c3.dueNotice
          ++ [.settled c3.store.interval settled.length missing.length load])]))

/-! ### Cleaning credit (R167) -/

/-- The account of a row with a pass credited (R167). -/
def Account.credit (a : Account) : Account :=
  { a with lastRecovery := a.sl, sl := 0, cleans := min 65535 (a.cleans + 1) }

/-- A pass completion credited to row `r` (R167). -/
def Ev.passCredit (e : Ev) (r : Nat) : Ev :=
  let due := (e.core.row r).due
  let e := (e.mod (fun c => c.modAccount r Account.credit)).modRow r (fun x => { x with due := false })
  if due then (e.note (.dueChange r 0 false)).hand .dueChanged else e

/-! ### Coefficient requests (R164, R165) -/

/-- COEFF WRITE (R164), after the form test. -/
def reqCoeffWrite (form : CoeffForm) (c : Core) : Reply × Core :=
  match form with
  | .rows first _ values =>
      if !c.present first then (refuse .badRow, c)
      else if c.commit then (refuse .state, c)
      else
        let kept := values.take (c.cfg.rows - first)
        (refuse (doneOr (kept.length != values.length)),
          { c with coPending := c.coPending.setRows first kept })
  | .scalar item value =>
      if c.commit then (refuse .state, c)
      else
        let v := CoeffItem.clamp item value
        let p := c.coPending.setScalar item v
        if (item = .dueOn ∨ item = .dueOff) ∧ p.dueOn ≤ p.dueOff then (refuse .invalid, c)
        else (refuse (doneOr (v != value)), { c with coPending := p })

/-- COEFF COMMIT (R165). -/
def reqCoeffCommit (c : Core) : Reply × Core := (refuse .done, { c with commit := true })

/-- COEFF REVOKE (R165). -/
def reqCoeffRevoke (c : Core) : Reply × Core := (refuse .done, { c with commit := false })

/-- COEFF READ (R165), after the form test. -/
def reqCoeffRead (set : CoeffSetName) (first count : Nat) (c : Core) : Reply :=
  if !c.present first then refuse .badRow
  else
    let n := min count (c.cfg.rows - first)
    let s := match set with
      | .active => c.coActive
      | .pending => c.coPending
    { result := doneOr (n != count)
      fields := .coeffs c.commit c.loadCounter s.w s.eMin s.dueOn s.dueOff s.loadEvery
        ((List.range n).map (fun i => (s.track (first + i), s.alt (first + i)))) }

/-! ### Account requests (R170, R171) -/

/-- The place of a row in a list, counted from 1. -/
def placeIn (r : Nat) : List Nat → Option Nat
  | [] => none
  | x :: xs => if x = r then some 1 else (placeIn r xs).map (· + 1)

/-- ACCOUNT READ (R170). -/
def reqAccountRead (r : Nat) (c : Core) : Reply :=
  if !c.present r then refuse .badRow
  else
    { result := .done
      fields := .account (c.account r) (c.row r).latch (c.row r).mixed (c.row r).due (placeIn r c.dueList)
        (c.coActive.track r) (c.coActive.alt r) c.store.interval }

/-- ACCOUNT CLEAR (R171): a row, or every present row. -/
def reqAccountClear (row : Option Nat) (c : Core) : Reply × Ev :=
  if row.any (fun r => !c.present r) then (refuse .badRow, Ev.start c)
  else
    let rows := match row with
      | some r => [r]
      | none => c.presentRows
    let c1 := rows.foldl (fun c r => (c.modAccount r (fun _ => {})).modRow r (fun x => { x with due := false })) c
    let changed := dueChanges c c1 rows
    (refuse .done,
      (Ev.start c1).handAll (changed.flatMap (fun r => [Handoff.announce [c1.dueNotice r], .dueChanged])))

end Sys2Proof.Machine
end

