-- ==== Sys2Proof/Machine/Events.lean ====
section
/-! DEFINITION. One event of the part from its start to its end (section 4.5): the hand-offs between the blocks delivered
one after another, the zone tests at its end, the notices admitted, the pins following (log entries 2 and 7). -/

namespace Sys2Proof.Machine

/-- What a hand-off does at the block that receives it. -/
def Ev.handle (e : Ev) : Handoff → Ev
  | .stationLeft row robot => e.stationLeft row robot
  | .panelsEmptied row => e.panelsEmptied row
  | .panelsEntered row robot => e.panelsEntered row robot
  | .anchorSet row => e.anchorSet row
  | .anchorReleased row robot => e.anchorReleased row robot
  | .permitZoneParked zone => e.permitZoneParked zone
  | .permitZoneCleared zone => e.permitZoneCleared zone
  | .carriagePlace robot => e.carriagePlace robot
  | .stationTaken row robot => e.stationTaken row robot
  | .carriageLost robot => e.carriageLost robot
  | .carriageZoneParked zone => e.carriageZoneParked zone
  | .carriageZoneCleared zone => e.carriageZoneCleared zone
  | .roundPlace robot => e.roundPlace robot
  | .roundLost robot => e.roundLost robot
  | .roundPass robot row => e.roundPass robot row
  | .entryGranted slot row => e.entryGranted slot row
  | .entryFailed slot row => e.entryFailed slot row
  | .permitChanged row => e.permitChanged row
  | .transferEnd slot robot row outcome => e.transferEnded slot robot row outcome
  | .serviceEnd robot => e.serviceEnded robot
  | .throttleCleared => e.throttleCleared
  | .roundZoneParked zone => e.roundZoneParked zone
  | .roundZoneCleared _ => e.roundZoneCleared
  | .dueChanged => e.evalTriggers
  | .censusEnded => e.censusEnded
  | .chooseRow slot => e.chooseRow slot
  | .seekingTest slot => e.seekingTest slot
  | .evalTriggers => e.evalTriggers
  | .evalTrigger slot => e.evalTrigger slot
  | .resumeTest slot => e.resumeTest slot
  | .passCredit row => e.passCredit row
  | .evalZone zone setChanged => e.evalZone zone setChanged
  | .zoneOrders zone => e.zoneOrders zone
  | .zoneResume zone => e.zoneResume zone
  | .zoneTest zone => e.zoneTest zone e.core
  | .zoneTestState zone => e.zoneState zone
  | .announceZone zone => e.tellOnce (.zoneState zone)
  | .announceHazard h => e.tell (.hazard h)
  | .announce ns => ns.foldl Ev.note e

/-- The settling hand-offs at the head of the work delivered. What they hand on stands before the rest of the work: what
follows from the station and panels first, then what follows from the carriage (R57, R113). -/
def Ev.settle (e : Ev) : Ev :=
  let e' := (e.work.takeWhile Handoff.settles).foldl Ev.handle { e with work := [] }
  { e' with work := e'.work ++ e.work.dropWhile Handoff.settles }

/-- The hand-offs of an event delivered: the settling ones first, the others one after another, each with all that follows
from it before the next. The number counts down with every hand-off that a hand-off makes: at 0 what is left is
dropped. -/
def Ev.drain : Nat → Ev → Ev
  | 0, e => { e with work := [] }
  | n + 1, e => e.settle.work.foldl (fun e h => Ev.drain n (Ev.handle e h)) { e.settle with work := [] }

/-- All the hand-offs of an event delivered. -/
def Ev.deliver (e : Ev) : Ev := e.drain Config.handoffDepth

/-- The zone tests that an event begun at `c0` calls for, each whole before the next, and then the RESUME orders of the
robots that left a parked zone (R138, R142). -/
def Ev.endTests (e : Ev) (c0 : Core) : Ev :=
  let e := e.each zoneNumbers fun z e =>
    if touched c0 e.core z then (e.zoneTest z c0).deliver else e
  e.each (leftParked c0 e.core) Ev.resumeRobot

/-- The part after an event on it: hand-offs, zone tests, notices, pins. -/
def Part.finish (p : Part) (e : Ev) : Part :=
  let e := (e.deliver).endTests p.core
  Part.drivePins { liu := p.liu.flush e.core e.out, core := e.core }

end Sys2Proof.Machine
end

