-- ==== Sys2Proof/Machine/Startup.lean ====
section
/-! DEFINITION. Configuration and start-up (R150, R168, R182 to R190): full reset, load, entering RUN, the configuration
requests, saving, warm restart. -/

namespace Sys2Proof.Machine

/-! ### Full reset and power (R168, R184) -/

/-- The retention marker is valid at a full reset: a unit of the store that was being written leaves it not valid (R168).
The store is written in RUN only. -/
def Core.storeKept (c : Core) (storeWriting : Bool) : Bool :=
  c.store.markerValid && !(storeWriting && decide (c.phase = .run))

/-- How many of its writes a save has made at a moment of its ten seconds: the first at once, and all five at most (R188,
log entry 34). -/
def Save.made (x : Save) : Nat := 1 + min 4 (Config.savePace (Config.saveSeconds - x.timer))

/-- What the memory holds when a save under way is cut short (R188, R189). -/
def Core.imageCut (c : Core) : ImageLeft :=
  match c.save with
  | some x => .cut x.made
  | none => c.image

/-- VBAT after a full reset. One that ends an absence of main power may find VBAT back (log entry 12). -/
def Core.vbatAfter (c : Core) : Vbat :=
  if c.phase = .off then
    { present := c.vbat.present || Config.vbatBack c.vbat.powerUps, powerUps := c.vbat.powerUps + 1 }
  else c.vbat

/-- A full reset of the core (R168, R184, R189): the announcement of a lost store waits for RUN through further resets, and a
save under way is abandoned. -/
def Core.fullReset (c : Core) (storeWriting : Bool) : Core :=
  if c.storeKept storeWriting then Core.atReset c.store c.accountsLost c.vbatAfter c.imageCut
  else Core.atReset Store.cleared true c.vbatAfter c.imageCut

/-- A full reset (R182, R184): the ports are cleared. -/
def Part.fullReset (p : Part) (storeWriting : Bool) : Part :=
  { liu := {}, core := p.core.fullReset storeWriting }

/-- The release of the full reset: the load begins and the review timer starts (R129, R184). -/
def Core.resetRelease (c : Core) : Core :=
  if c.phase = .inReset then { c with phase := .loading, review := some c.cfg.review } else c

/-- The retention marker given a value. -/
def Core.setMarker (c : Core) (v : Bool) : Core := { c with store := { c.store with markerValid := v } }

/-- Loss of main power (R168): only the account store is kept, as long as VBAT is present. A save under way is cut short. -/
def Core.powerLoss (c : Core) (storeWriting : Bool) : Core :=
  { c.setMarker (c.storeKept storeWriting && c.vbat.present) with phase := .off, save := none, image := c.imageCut }

/-- Loss of VBAT (R168): it leaves the marker not valid while main power is absent. -/
def Core.vbatLoss (c : Core) : Core :=
  { (if c.phase = .off then c.setMarker false else c) with vbat := { c.vbat with present := false } }

/-! ### The image (R183, R184) -/

/-- The item and index that an item record names. -/
def Item.ref : Item → ItemRef
  | .num i _ => .num i
  | .rowZone row _ => .rowZone row
  | .installed _ => .installed
  | .window n _ => .window n
  | .linkEnable _ _ => .linkEnable
  | .anemEnable c _ => .anemEnable c
  | .mode h _ => .mode h
  | .map h _ => .map h
  | .lineLevel _ => .lineLevel
  | .noticeClass l k _ _ => .noticeClass l k
  | .linkRate _ => .linkRate
  | .unknown => .unknown

/-- Some element stands twice. -/
def repeats {α : Type} [DecidableEq α] : List α → Bool
  | [] => false
  | x :: xs => xs.contains x || repeats xs

/-- The settings of an image: its values clamped, over the defaults (R184). -/
def Image.settings (i : Image) : Settings := i.items.foldl (fun s x => s.set (Item.clamp x)) Settings.defaults

/-- The coefficient set of an image: its values clamped, over the defaults (R164, R184). -/
def Image.coeffSet (i : Image) : CoeffSet :=
  (i.coeffs.scalars.foldl (fun s x => s.setScalar x.1 (CoeffItem.clamp x.1 x.2)) CoeffSet.defaults).setRows 0 i.coeffs.rows

/-- The CRC-16 over everything before it stands in the last two bytes of the image, the low byte first (R172, R183). -/
def Image.crcOk (i : Image) : Bool :=
  match i.bytes.drop (i.length - 2) with
  | [lo, hi] => decide (2 ≤ i.length) && crc16 (i.bytes.take (i.length - 2)) == hi ++ lo
  | _ => false

/-- Nothing makes the image INVALID (R184). -/
def Image.valid (i : Image) : Bool :=
  i.format == Config.formatCode && decide (i.length ≤ Config.imageBytes) && Image.crcOk i
    && !(i.items.any (fun x => Item.malformed x)) && !(repeats (i.items.map Item.ref)) && !(repeats (i.coeffs.scalars.map (·.1)))
    && (Image.settings i).ordered && decide ((Image.coeffSet i).dueOff < (Image.coeffSet i).dueOn)

/-- The writes of a save in their order (R188). -/
def saveWrites : List SaveWrite := [.headerOnes, .items, .coefficients, .crc, .header]

/-- After its first `made` writes a save has left the header all ones (R188). -/
def headerErased (made : Nat) : Bool := !(saveWrites.take made).contains .header

/-- The finding of the load (R184). What a save cut short or failed has left is not found VALID: ABSENT while the header still
reads all ones, INVALID otherwise (R189). -/
def judge (left : ImageLeft) (found : MemoryRead) : ConfigOutcome :=
  match found, left with
  | .noAnswer, _ | .headerOnes, _ => .absent
  | .image _, .cut made => if headerErased made then .absent else .invalid
  | .image i, .unwritten | .image i, .valid _ => if Image.valid i then .valid else .invalid

/-! ### Entering RUN (R5, R21, R150, R163, R168, R169, R177) -/

/-- The census, the silence timers and the run-entry count of an entry into RUN. -/
def Core.beginRun (c : Core) : Core :=
  { c with
    phase := .run
    runEntries := c.runEntries + 1
    census := some c.cfg.census
    rows := c.rows.mapIdx (fun r x => if c.present r then { x with silence := some c.cfg.trackerSilence } else x) }

/-- Entering RUN (R21, R150, R163, R168, R184). ACCOUNTS_LOST stands before the notices of the zone tests (DESIGN CHOICE, log
entry 24). -/
def Ev.enterRun (e : Ev) : Ev :=
  let e := e.mod Core.beginRun
  let parked := e.core.presentRows.filter (fun r => (e.core.row r).permit == .still && !e.core.rowClear r)
  let e := e.each parked (fun r e => e.setPermit r .stow)
  let e := e.mod (fun c => c.retakeLatches true)
  let e := if e.core.accountsLost then (e.mod (fun c => { c with accountsLost := false })).note .accountsLost else e
  e.handAll ((zoneNumbers.filter (fun z => !e.core.zoneClear z)).map Handoff.zoneTest)

/-- The due flags formed anew from the kept SL and the active set (R169). -/
def Core.formDue (c : Core) : Core :=
  { c with rows := c.rows.mapIdx (fun r x => { x with due := decide (c.coActive.dueOn ≤ (c.account r).sl) }) }

/-- The core filled from a valid image (R184). -/
def Core.loaded (c : Core) (i : Image) : Core :=
  let s := Image.settings i
  { c with
    cfg := s
    shadow := s
    coActive := Image.coeffSet i
    coPending := Image.coeffSet i
    review := some s.review }

/-- The end of the load (R184), before the frames held meanwhile are taken. -/
def loadEnd (found : MemoryRead) (c : Core) : Ev :=
  let outcome := judge c.image found
  let e := match outcome, found with
    | .valid, .image i => Ev.enterRun (Ev.start (c.loaded i).formDue)
    | _, _ => Ev.start { c with phase := .configWait }
  e.hand (.announce [.configState .load outcome])

/-! ### CONFIG WRITE and CONFIG READ (R186) -/

/-- The zone evaluations of a map change of a latched hazard (R132, R136). -/
def mapChange (old new : Set8) : List Handoff :=
  (zonesOf (old ||| new)).map (fun z => Handoff.evalZone z (old.getLsbD z != new.getLsbD z))

/-- A value of LINE_LEVEL acts at once on a present LINE cause (R127). -/
def Ev.lineLevelTaken (e : Ev) : Ev :=
  if (e.core.hazard .line).cause.isSome then e.setCause .line e.core.cfg.lineLevel else e

/-- What a taken write sets going at once (R127, R132, R133). -/
def Ev.itemTaken (e : Ev) (item : Item) (before : Settings) : Ev :=
  match item with
  | .map h _ =>
      (if (e.core.hazard h).latched then e.handAll (mapChange (before.map h) (e.core.cfg.map h)) else e).hand
        (.announceHazard h)
  | .mode h _ => e.hand (.announceHazard h)
  | .lineLevel _ => if e.core.phase = .run then e.lineLevelTaken else e
  | .num _ _ | .rowZone _ _ | .installed _ | .window _ _ | .linkEnable _ _ | .anemEnable _ _ | .noticeClass _ _ _ _
  | .linkRate _ | .unknown => e

/-- The settings in force after a taken write: in RUN every item but LINK_RATE, in CONFIG_WAIT those of R185. -/
def Core.cfgAfter (c : Core) (item : Item) : Settings :=
  match item with
  | .linkRate _ => c.cfg
  | _ => if c.phase = .run ∨ Item.immediate item = true then c.cfg.set item else c.cfg

/-- CONFIG WRITE (R186), after the form test. -/
def reqConfigWrite (item : Item) (c : Core) : Reply × Ev :=
  let x := Item.clamp item
  if c.phase = .run ∧ Item.geometry item = true then (refuse .state, Ev.start c)
  else if c.shadow.breaksOrder x then (refuse .invalid, Ev.start c)
  else
    (refuse (doneOr (x != item)),
      (Ev.start { c with shadow := c.shadow.set x, cfg := c.cfgAfter x }).itemTaken x c.cfg)

/-- CONFIG READ (R186), after the form test. -/
def reqConfigRead (item : ItemRef) (c : Core) : Reply := { result := .done, fields := .item (c.shadow.get item) }

/-! ### CONFIG APPLY (R187) -/

/-- The hazards whose map changes while they are latched. -/
def remapped (c : Core) (new : Settings) : List Hazard :=
  Hazard.all.filter (fun h => (c.hazard h).latched && c.cfg.map h != new.map h)

/-- The zone evaluations of the map changes of CONFIG APPLY (R132, R187 step 3). -/
def applyMaps (c : Core) (new : Settings) : List Handoff :=
  (zoneNumbers.filter (fun z =>
      (remapped c new).any (fun h => (c.cfg.map h).getLsbD z || (new.map h).getLsbD z))).map
    (fun z => Handoff.evalZone z ((remapped c new).any (fun h => (c.cfg.map h).getLsbD z != (new.map h).getLsbD z)))

/-- CONFIG APPLY (R187). The map changes are whole before the part enters RUN, and their zone evaluations come before the
HAZARD notice of a LINE cause whose level LINE_LEVEL moves (R133). -/
def reqConfigApply (c : Core) : Reply × Ev :=
  if c.phase = .run then (refuse .state, Ev.start c)
  else
    let new := { c.shadow with linkRate := c.cfg.linkRate }
    let e := Ev.start { c with cfg := new, coPending := c.coActive }
    let e := ((e.lineLevelTaken).handFirst (applyMaps c new)).deliver
    (refuse .done, (e.mod Core.formDue).enterRun)

/-! ### Saving (R188, R189) -/

/-- CONFIG SAVE (R189). The header is overwritten first (R188), so the image is not valid until the save is done. -/
def reqConfigSave (c : Core) : Reply × Core :=
  if c.save.isSome then (refuse .busy, c)
  else
    (refuse .accepted,
      { c with
        save := some { snapshot := ⟨c.shadow, c.coActive⟩, timer := Config.saveSeconds }
        image := .cut 1 })

/-- The end of a save (R189): `image` is what it leaves in the memory. -/
def Core.saveEnd (c : Core) (outcome : ConfigOutcome) (image : ImageLeft) : Ev :=
  (Ev.start { c with save := none, image := image }).note (.configState .save outcome)

/-- The memory reports the last write complete, and the image read back matches the snapshot or differs (R189). -/
def saveComplete (readBackMatches : Bool) (c : Core) : Ev :=
  match c.save with
  | none => Ev.start c
  | some x => if readBackMatches then c.saveEnd .done (.valid x.snapshot) else c.saveEnd .failed (.cut saveWrites.length)

/-- The save timer expires (R189). -/
def saveTimeout (c : Core) : Ev :=
  c.atExpiry (fun c => c.save.map (·.timer)) true fun c => c.saveEnd .failed c.imageCut

/-! ### Warm restart (R190) -/

/-- The core with the warm-restart values of R5, R20, R55, R74, R94 and R150. -/
def Core.warm (c : Core) : Core :=
  { c with
    rows := c.rows.map (fun x => { due := x.due, latch := x.latch, mixed := x.mixed })
    robots := Vector.replicate 8 {}
    carriage := {}
    slots := Vector.replicate 4 {}
    census := none }

/-- A port's queue emptied and its counters cleared (R182, R190). -/
def Port.restart (p : Port) : Port := { p.clearCounters with queue := [] }

/-- The warm restart changes the carriage's state, its passenger or the throttle (R91). -/
def Carriage.restartShows (k : Carriage) : Bool := k.state != .idle || k.passenger.isSome || k.throttle

/-- The event of RESTART (R190): the warm-restart values, CARRIAGE_STATE where they change what it shows (R91), and RUN
again. -/
def Core.restart (c : Core) : Ev :=
  let e := Ev.start c.warm
  (if c.carriage.restartShows then e.sayCarriage else e).enterRun

/-- RESTART (R190). -/
def Part.restart (p : Part) : Reply × Part :=
  (refuse .done,
    { p with liu := { t := p.liu.t.restart, f := p.liu.f.restart, p := p.liu.p.restart } }.finish p.core.restart)

end Sys2Proof.Machine
end

