-- ==== Sys2Proof/Machine/Requests.lean ====
section
/-! DEFINITION. Requests (R174, R175): the types with their codes and links, the reading of a BODY, the dispatch, and what
each request does. -/

namespace Sys2Proof.Machine

/-! ### Types (R175) -/

/-- The request types with their codes, in the table's order. -/
def requestTable : List (Byte × ReqType) :=
  [(0x01, .status), (0x02, .fetchNotice), (0x03, .permitQuery), (0x04, .robotQuery), (0x05, .carriageQuery),
   (0x06, .roundQuery), (0x07, .zoneQuery), (0x08, .hazardQuery), (0x10, .trackerReport), (0x11, .stowAll),
   (0x12, .stowAllEnd), (0x20, .entryRequest), (0x21, .robotReport), (0x22, .passComplete), (0x23, .carriageReport),
   (0x24, .transferRequest), (0x25, .roundStart), (0x26, .roundPause), (0x27, .roundResume), (0x28, .roundAbort)]
  ++ [(0x30, .parkOrder), (0x31, .parkRelease), (0x32, .hazardAck), (0x33, .lostRelease), (0x34, .carriageClear),
   (0x35, .windowTest), (0x40, .intervalReport), (0x41, .coeffWrite), (0x42, .coeffCommit), (0x43, .coeffRevoke),
   (0x44, .coeffRead), (0x45, .accountRead), (0x46, .accountClear), (0x50, .configWrite), (0x51, .configRead),
   (0x52, .configApply), (0x53, .configSave), (0x54, .restart)]

/-- The type of a code. -/
def typeOf (code : Byte) : Option ReqType := (requestTable.find? (fun x => x.1 == code)).map (·.2)

/-- The code of a type. -/
def codeOf (t : ReqType) : Byte := ((requestTable.find? (fun x => x.2 == t)).map (·.1)).getD 0

/-- The TYPE of a reply (R174). -/
def replyType (code : Byte) : Byte := if 0x80 ≤ code.toNat then 0xFF else code + 0x80

/-- The type is valid on the link. -/
def validOn : ReqType → Link → Bool
  | .status, _ | .fetchNotice, _ | .permitQuery, _ | .robotQuery, _ | .carriageQuery, _ | .roundQuery, _
  | .zoneQuery, _ | .hazardQuery, _ => true
  | .trackerReport, l | .stowAll, l | .stowAllEnd, l => l == .T
  | .entryRequest, l | .robotReport, l | .passComplete, l | .carriageReport, l => l == .F
  | .transferRequest, l | .roundStart, l | .roundPause, l | .roundResume, l | .roundAbort, l => l == .F || l == .P
  | .parkOrder, l | .parkRelease, l | .hazardAck, l | .lostRelease, l | .carriageClear, l | .windowTest, l
  | .intervalReport, l | .coeffWrite, l | .coeffCommit, l | .coeffRevoke, l | .coeffRead, l | .accountRead, l
  | .accountClear, l | .configWrite, l | .configRead, l | .configApply, l | .configSave, l | .restart, l => l == .P

/-- The types admitted in CONFIG_WAIT (R175, R185). -/
def admittedWaiting (t : ReqType) : Bool :=
  t == .status || t == .fetchNotice || t == .configWrite || t == .configRead || t == .configApply

/-- The LIU tests the requests-enabled flag for the type (R47): not for STATUS and FETCH NOTICE, nor for the row-naming
requests whose decode tests it. -/
def flagTested (t : ReqType) : Bool :=
  !(t == .status || t == .fetchNotice || t == .entryRequest || t == .transferRequest)

/-! ### Bodies (R175) -/

/-- The request of a type that carries no fields. -/
def bare : ReqType → Option Request
  | .status => some .status
  | .fetchNotice => some .fetchNotice
  | .carriageQuery => some .carriageQuery
  | .roundQuery => some .roundQuery
  | .zoneQuery => some .zoneQuery
  | .hazardQuery => some .hazardQuery
  | .stowAll => some .stowAll
  | .stowAllEnd => some .stowAllEnd
  | .parkRelease => some .parkRelease
  | .carriageClear => some .carriageClear
  | .coeffCommit => some .coeffCommit
  | .coeffRevoke => some .coeffRevoke
  | .configApply => some .configApply
  | .configSave => some .configSave
  | .restart => some .restart
  | .permitQuery | .robotQuery | .trackerReport | .entryRequest | .robotReport | .passComplete | .carriageReport
  | .transferRequest | .roundStart | .roundPause | .roundResume | .roundAbort | .parkOrder | .hazardAck | .lostRelease
  | .windowTest | .intervalReport | .coeffWrite | .coeffRead | .accountRead | .accountClear | .configWrite
  | .configRead => none

/-- The reading of a BODY (R175): nothing when its length does not fit the type. -/
def parse (t : ReqType) (body : List Byte) : Option Request :=
  match bare t with
  | some q => if body = [] then some q else none
  | none => readBody t body

/-! ### Dispatch (R175) -/

/-- The first check that fails: type, part state, form, link enable. `q` is nothing when the body does not fit. -/
def Core.refusal (c : Core) (l : Link) (t : ReqType) (q : Option Request) : Option Result :=
  if !validOn t l then some .unknownType
  else if c.phase ≠ .run ∧ admittedWaiting t = false then some .notReady
  else if q.all Request.malformed then some .malformed
  else if flagTested t && !c.cfg.enabled l then some .portDisabled
  else none

/-- A request answered from the state. -/
def Part.answer (p : Part) (r : Reply) : Reply × Part := (r, p)

/-- A request that changes the core and nothing else. -/
def Part.store (p : Part) (x : Reply × Core) : Reply × Part := (x.1, { p with core := x.2 })

/-- A request that is an event of the part. -/
def Part.act (p : Part) (x : Reply × Ev) : Reply × Part := (x.1, p.finish x.2)

/-- FETCH NOTICE on link `l` (R180, R181). -/
def Part.fetchNotice (p : Part) (l : Link) : Reply × Part :=
  let (r, port) := (p.liu.port l).fetch
  (r, Part.drivePins { p with liu := p.liu.modPort l (fun _ => port) })

/-- STATUS on link `l` (R177). -/
def Part.status (p : Part) (l : Link) : Reply × Part :=
  (p.core.status (p.liu.port l), { p with liu := p.liu.modPort l Port.clearCounters })

/-- A CONFIG WRITE taken on the P-link between the decodes of two entries of a batch (R46, log entry 26): what the command
CONFIG_WRITE does, its dispatch and its reply included. -/
def Part.writeBetween (p : Part) (item : Item) : Part :=
  let (r, p) := match p.core.refusal .P .configWrite (some (.configWrite item)) with
    | none => p.act (reqConfigWrite item p.core)
    | some x => p.answer (refuse x)
  p.modPort .P (fun x => { x with reply := some ⟨replyType (codeOf .configWrite), none, r⟩ })

/-- One entry of a batch in its turn (R7, R8, R46): the writes taken before it, its decode against the windows as they then
stand, its count, and the entry applied as an event of its own when it passes. -/
def Part.batchEntry (b : BatchCounts × Part) (x : TrackerEntry) : BatchCounts × Part :=
  let p := x.before.foldl Part.writeBetween b.2
  let answer := p.core.entryAnswer x.row
  (b.1.add x answer, if answer.isNone then p.finish (trackerEvent x p.core) else p)

/-- TRACKER REPORT (R7, R10, R46), after the form and link tests: its entries one after another in the order they stand. -/
def Part.trackerReport (p : Part) (entries : List TrackerEntry) : Reply × Part :=
  let (n, p) := entries.foldl Part.batchEntry ({}, p)
  (n.reply, p)

/-- What a request that passed the dispatch does (R175, the owner's rules). -/
def Part.perform (p : Part) (l : Link) : Request → Reply × Part
  | .status => p.status l
  | .fetchNotice => p.fetchNotice l
  | .permitQuery first count form => p.answer (reqPermitQuery first count (form.getD .summary) p.core)
  | .robotQuery first count => p.answer (reqRobotQuery first count p.core)
  | .carriageQuery => p.answer (reqCarriageQuery p.core)
  | .roundQuery => p.answer (reqRoundQuery p.core)
  | .zoneQuery => p.answer (reqZoneQuery p.core)
  | .hazardQuery => p.answer (reqHazardQuery p.core)
  | .trackerReport _ entries => p.trackerReport entries
  | .stowAll => p.act (reqStowAll p.core)
  | .stowAllEnd => p.act (reqStowAllEnd p.core)
  | .entryRequest robot row => p.act (reqEntryRequest l robot row p.core)
  | .robotReport robot place row position battery =>
      p.act (reqRobotReport robot (place.getD .atStation) row position battery p.core)
  | .passComplete robot row => p.act (reqPassComplete robot row p.core)
  | .carriageReport position => p.act (reqCarriageReport position p.core)
  | .transferRequest robot row => p.act (reqTransferRequest l robot row p.core)
  | .roundStart slot robot (some spec) => p.act (reqRoundStart l slot robot spec p.core)
  | .roundStart _ _ none => p.answer (refuse .malformed)
  | .roundPause slot => p.act (reqRoundPause l slot p.core)
  | .roundResume slot => p.act (reqRoundResume l slot p.core)
  | .roundAbort slot => p.act (reqRoundAbort l slot p.core)
  | .parkOrder level => p.act (reqParkOrder (level.getD .park) p.core)
  | .parkRelease => p.act (reqParkRelease p.core)
  | .hazardAck h => p.act (reqHazardAck (h.getD .wind) p.core)
  | .lostRelease robot => p.act (reqLostRelease robot p.core)
  | .carriageClear => p.act (reqCarriageClear p.core)
  | .windowTest link row => p.answer (reqWindowTest (link.getD .T) row p.core)
  | .intervalReport irradiation first _ energies => p.act (reqIntervalReport irradiation first energies p.core)
  | .coeffWrite (some form) => p.store (reqCoeffWrite form p.core)
  | .coeffWrite none => p.answer (refuse .malformed)
  | .coeffCommit => p.store (reqCoeffCommit p.core)
  | .coeffRevoke => p.store (reqCoeffRevoke p.core)
  | .coeffRead set first count => p.answer (reqCoeffRead (set.getD .active) first count p.core)
  | .accountRead row => p.answer (reqAccountRead row p.core)
  | .accountClear row => p.act (reqAccountClear row p.core)
  | .configWrite item => p.act (reqConfigWrite item p.core)
  | .configRead item => p.answer (reqConfigRead item p.core)
  | .configApply => p.act (reqConfigApply p.core)
  | .configSave => p.store (reqConfigSave p.core)
  | .restart => p.restart

/-- A request taken in CONFIG_WAIT or RUN: dispatched, and performed when no check refuses it (R174, R175). -/
def Part.serve (p : Part) (l : Link) (t : ReqType) (q : Option Request) : Reply × Part :=
  match p.core.refusal l t q, q with
  | none, some q => p.perform l q
  | none, none => p.answer (refuse .malformed)
  | some x, _ => p.answer (refuse x)

end Sys2Proof.Machine
end

