-- ==== Sys2Proof/Machine/Frames.lean ====
section
/-! DEFINITION. The link ports (R173, R174): the receiver, buffering and service. -/

namespace Sys2Proof.Machine

/-! ### Counters and places -/

/-- A 16-bit count with one more, which stays at 65535 (R173, R174). -/
def countUp (n : Nat) : Nat := min 65535 (n + 1)

/-- A frame error: the partial frame is abandoned and the count goes up (R173). -/
def Port.frameError (p : Port) : Port := { p with receiver := .hunt, frameErrors := countUp p.frameErrors }

/-! ### Service (R174) -/

/-- What a frame asks, taken as one event: the reply frame and the part after it (R174, R175). -/
def Part.serveFrame (p : Part) (l : Link) : FrameContent → ReplyFrame × Part
  | .raw code tag body =>
      match typeOf code with
      | none => (⟨replyType code, some tag, refuse .unknownType⟩, p)
      | some t =>
          let (r, p) := p.serve l t (parse t body)
          (⟨replyType code, some tag, r⟩, p)
  | .request q =>
      let (r, p) := p.serve l q.type (some q)
      (⟨replyType (codeOf q.type), none, r⟩, p)

/-- The frame is taken: it is in service, and its reply is built within the event. -/
def Part.takeFrame (p : Part) (l : Link) (f : FrameContent) : Part :=
  let (r, p) := (p.modPort l (fun x => { x with inService := some ⟨f, true⟩ })).serveFrame l f
  p.modPort l (fun x => { x with reply := some r })

/-- A complete frame (R174). During the load it waits untaken (R184). -/
def Part.bufferFrame (p : Part) (l : Link) (f : FrameContent) : Part :=
  match (p.liu.port l).inService, (p.liu.port l).waiting with
  | none, _ =>
      if p.core.phase = .loading then p.modPort l (fun x => { x with inService := some ⟨f, false⟩ })
      else p.takeFrame l f
  | some _, none => p.modPort l (fun x => { x with waiting := some ⟨f, false⟩ })
  | some _, some _ => p.modPort l (fun x => { x with overruns := countUp x.overruns })

/-- The last byte of the reply has been sent: the place is free and the waiting frame is taken (R174). -/
def Part.replySent (p : Part) (l : Link) : Part :=
  match (p.liu.port l).inService with
  | some ⟨_, true⟩ =>
      match (p.liu.port l).waiting with
      | none => p.modPort l (fun x => { x with inService := none })
      | some f => (p.modPort l (fun x => { x with inService := none, waiting := none })).takeFrame l f.content
  | some ⟨_, false⟩ | none => p

/-- A frame held in service through the load is taken once the load has ended (R184). -/
def Part.takeHeld (p : Part) (l : Link) : Part :=
  match (p.liu.port l).inService with
  | some ⟨f, false⟩ => p.takeFrame l f
  | some ⟨_, true⟩ | none => p

/-! ### The receiver (R173) -/

/-- What a complete frame asks fits a frame: a BODY of at most 248 bytes (R172). -/
def FrameContent.fits : FrameContent → Bool
  | .raw _ _ body => decide (body.length ≤ bodyLimit)
  | .request _ => true

/-- A complete frame leaves the receiver in HUNT and goes to buffering. A BODY that no frame can carry cannot have come in
(log entry 8). -/
def Part.frameDone (p : Part) (l : Link) (f : FrameContent) : Part :=
  if f.fits then (p.modPort l (fun x => { x with receiver := .hunt })).bufferFrame l f else p

/-- The stored bytes after LENGTH as a frame: TYPE, TAG, BODY. -/
def frameOf : List Byte → Option FrameContent
  | type :: tag :: body => some (.raw type tag body)
  | _ => none

/-- A byte taken by the receiver of a link (R173). -/
def Part.byteReceived (p : Part) (l : Link) (b : Byte) : Part :=
  let into := fun r => p.modPort l (fun x => { x with receiver := r })
  match (p.liu.port l).receiver with
  | .hunt => if b = 0xA5 then into .length else p
  | .length => if 2 ≤ b.toNat ∧ b.toNat ≤ 250 then into (.data b []) else p.modPort l Port.frameError
  | .data n got =>
      if n.toNat ≤ got.length + 1 then into (.crc n (got ++ [b]) none) else into (.data n (got ++ [b]))
  | .crc n got none => into (.crc n got (some b))
  | .crc n got (some lo) =>
      match frameOf got with
      | some f => if crc16 (n :: got) = b ++ lo then p.frameDone l f else p.modPort l Port.frameError
      | none => p.modPort l Port.frameError

/-- A gap of more than 20 ms, or a byte without its stop bit: a frame error in any state but HUNT (R173). -/
def Port.abandon (p : Port) : Port := if p.receiver = .hunt then p else p.frameError

end Sys2Proof.Machine
end

