-- ==== Sys2Proof/Machine/Commands.lean ====
section
/-! DEFINITION. The commands: one meaning for each row of spec/opcode_table.json, over the shared operations. A command has
an effect while the part is in a state in which its event can occur, and none otherwise (log entry 8). -/

namespace Sys2Proof.Machine

/-- The outcome of a command. -/
abbrev Outcome := Host.Outcome State Fault Refusal

/-- The part replaced; the queue of commands is left alone. -/
def State.withPart (s : State) (p : Part) : State := { s with part := p }

/-- The part serves requests and its blocks act: CONFIG_WAIT or RUN (R177, R185). -/
def Core.serving (c : Core) : Bool := decide (c.phase = .run) || decide (c.phase = .configWait)

/-- An event of the blocks. -/
def State.event (s : State) (f : Core → Ev) : State :=
  if s.part.core.serving then s.withPart (s.part.finish (f s.part.core)) else s

/-- An event of the lines and of the pins that are read while the configuration is loaded too (R119, R173, R184). -/
def State.line (s : State) (f : Part → Part) : State :=
  if s.part.core.serving || decide (s.part.core.phase = .loading) then s.withPart (f s.part) else s

/-- A request taken from a link (R174), its reply built; the places of the port are left alone (log entry 3). -/
def Part.request (p : Part) (l : Link) (q : Request) : Part :=
  let (r, p) := p.serveFrame l (.request q)
  p.modPort l (fun x => { x with reply := some r })

/-- A request command: taken in CONFIG_WAIT and RUN, held in the port during the load (R184). -/
def State.request (s : State) (l : Link) (q : Request) : State :=
  if s.part.core.serving then s.withPart (s.part.request l q)
  else s.line (fun p => p.bufferFrame l (.request q))

/-- The end of the load, and then the frames that waited for it, link by link (R184, log entry 9). -/
def Part.loadEnd (p : Part) (found : MemoryRead) : Part :=
  (((p.finish (Machine.loadEnd found p.core)).takeHeld .T).takeHeld .F).takeHeld .P

/-! ### Events -/

/-- TRACKER_SILENCE_EXPIRY (R12). -/
def execTrackerSilenceExpiry (row : Nat) (s : State) : Outcome := .next (s.event (trackerSilenceExpiry row))

/-- CENSUS_EXPIRY (R22). -/
def execCensusExpiry (s : State) : Outcome := .next (s.event censusExpiry)

/-- APPROACH_EXPIRY (R28). -/
def execApproachExpiry (row : Nat) (s : State) : Outcome := .next (s.event (approachExpiry row))

/-- GUARD_IN_EXPIRY (R27). -/
def execGuardInExpiry (row : Nat) (s : State) : Outcome := .next (s.event (guardInExpiry row))

/-- GUARD_OUT_EXPIRY (R32). -/
def execGuardOutExpiry (row : Nat) (s : State) : Outcome := .next (s.event (guardOutExpiry row))

/-- BOARDING_EXPIRY (R29). -/
def execBoardingExpiry (row : Nat) (s : State) : Outcome := .next (s.event (boardingExpiry row))

/-- ROBOT_SILENCE_EXPIRY (R66 to R68). -/
def execRobotSilenceExpiry (robot : Nat) (s : State) : Outcome := .next (s.event (robotSilenceExpiry robot))

/-- TRANSFER_TIMER_EXPIRY (R87). -/
def execTransferTimerExpiry (s : State) : Outcome := .next (s.event transferTimerExpiry)

/-- WIND_EVALUATION (R119 to R123, R11). -/
def execWindEvaluation (s : State) : Outcome := .next (s.event windEvaluation)

/-- HAZ_N_SAMPLE (R127). -/
def execHazNSample (high : Bool) (s : State) : Outcome := .next (s.event (hazNSample high))

/-- HAZARD_REVIEW_BOUNDARY (R129, R130). -/
def execHazardReviewBoundary (s : State) : Outcome := .next (s.event hazardReview)

/-- FORCED_STOW_EXPIRY (R148). -/
def execForcedStowExpiry (row : Nat) (s : State) : Outcome := .next (s.event (forcedStowExpiry row))

/-- SAVE_COMPLETE (R189). -/
def execSaveComplete (readBackMatches : Bool) (s : State) : Outcome := .next (s.event (saveComplete readBackMatches))

/-- SAVE_TIMEOUT (R189). -/
def execSaveTimeout (s : State) : Outcome := .next (s.event saveTimeout)

/-- ANEM_PULSE (R119). -/
def execAnemPulse (ch : Channel) (s : State) : Outcome := .next (s.line (fun p => { p with core := anemPulse ch p.core }))

/-- FULL_RESET (R168, R182, R184). -/
def execFullReset (storeWriting : Bool) (s : State) : Outcome := .next (s.withPart (s.part.fullReset storeWriting))

/-- RESET_RELEASE (R129, R184). -/
def execResetRelease (s : State) : Outcome := .next (s.withPart { s.part with core := s.part.core.resetRelease })

/-- MAIN_POWER_LOSS (R168). -/
def execMainPowerLoss (storeWriting : Bool) (s : State) : Outcome :=
  .next (s.withPart { s.part with core := s.part.core.powerLoss storeWriting })

/-- VBAT_LOSS (R168). -/
def execVbatLoss (s : State) : Outcome := .next (s.withPart { s.part with core := s.part.core.vbatLoss })

/-- LOAD_END (R184). -/
def execLoadEnd (found : MemoryRead) (s : State) : Outcome := .next (if s.part.core.phase = .loading then s.withPart (s.part.loadEnd found) else s)

/-- FRAME_COMPLETE (R174). -/
def execFrameComplete (l : Link) (type tag : Byte) (body : List Byte) (s : State) : Outcome := .next (s.line (fun p => p.frameDone l (.raw type tag body)))

/-- FRAME_CRC_ERROR (R173). -/
def execFrameCrcError (l : Link) (s : State) : Outcome := .next (s.line (fun p => p.modPort l Port.frameError))

/-- INTERBYTE_GAP (R173). -/
def execInterbyteGap (l : Link) (s : State) : Outcome := .next (s.line (fun p => p.modPort l Port.abandon))

/-- STOP_BIT_MISSING (R173). -/
def execStopBitMissing (l : Link) (s : State) : Outcome := .next (s.line (fun p => p.modPort l Port.abandon))

/-- BYTE_RECEIVED (R173). -/
def execByteReceived (l : Link) (byte : Byte) (s : State) : Outcome := .next (s.line (fun p => p.byteReceived l byte))

/-- REPLY_SENT (R174). -/
def execReplySent (l : Link) (s : State) : Outcome := .next (s.line (fun p => p.replySent l))

/-! ### Requests -/

/-- STATUS (R177). -/
def execStatus (l : Link) (s : State) : Outcome := .next (s.request l .status)

/-- FETCH_NOTICE (R180). -/
def execFetchNotice (l : Link) (s : State) : Outcome := .next (s.request l (.fetchNotice))

/-- PERMIT_QUERY (R16, R17). -/
def execPermitQuery (l : Link) (first count : Nat) (form : Coded QueryForm) (s : State) : Outcome := .next (s.request l (.permitQuery first count form))

/-- ROBOT_QUERY (R73). -/
def execRobotQuery (l : Link) (first count : Nat) (s : State) : Outcome := .next (s.request l (.robotQuery first count))

/-- CARRIAGE_QUERY (R93). -/
def execCarriageQuery (l : Link) (s : State) : Outcome := .next (s.request l (.carriageQuery))

/-- ROUND_QUERY (R118). -/
def execRoundQuery (l : Link) (s : State) : Outcome := .next (s.request l (.roundQuery))

/-- ZONE_QUERY (R152). -/
def execZoneQuery (l : Link) (s : State) : Outcome := .next (s.request l (.zoneQuery))

/-- HAZARD_QUERY (R134). -/
def execHazardQuery (l : Link) (s : State) : Outcome := .next (s.request l (.hazardQuery))

/-- TRACKER_REPORT (R6 to R10). -/
def execTrackerReport (l : Link) (count : Nat) (entries : List TrackerEntry) (s : State) : Outcome := .next (s.request l (.trackerReport count entries))

/-- ENTRY_REQUEST (R23, R24). -/
def execEntryRequest (l : Link) (robot row : Nat) (s : State) : Outcome := .next (s.request l (.entryRequest robot row))

/-- ROBOT_REPORT (R56 to R63). -/
def execRobotReport (l : Link) (robot : Nat) (place : Coded Place) (row : Nat) (position battery : Option Nat) (s : State) : Outcome := .next (s.request l (.robotReport robot place row position battery))

/-- PASS_COMPLETE (R64). -/
def execPassComplete (l : Link) (robot row : Nat) (s : State) : Outcome := .next (s.request l (.passComplete robot row))

/-- LOST_RELEASE (R70). -/
def execLostRelease (l : Link) (robot : Nat) (s : State) : Outcome := .next (s.request l (.lostRelease robot))

/-- CARRIAGE_REPORT (R75). -/
def execCarriageReport (l : Link) (position : Option Nat) (s : State) : Outcome := .next (s.request l (.carriageReport position))

/-- TRANSFER_REQUEST (R77, R78). -/
def execTransferRequest (l : Link) (robot row : Nat) (s : State) : Outcome := .next (s.request l (.transferRequest robot row))

/-- CARRIAGE_CLEAR (R88). -/
def execCarriageClear (l : Link) (s : State) : Outcome := .next (s.request l (.carriageClear))

/-- ROUND_START (R96, R97). -/
def execRoundStart (l : Link) (slot robot : Nat) (spec : Coded RoundSpec) (s : State) : Outcome := .next (s.request l (.roundStart slot robot spec))

/-- ROUND_PAUSE (R109). -/
def execRoundPause (l : Link) (slot : Nat) (s : State) : Outcome := .next (s.request l (.roundPause slot))

/-- ROUND_RESUME (R110). -/
def execRoundResume (l : Link) (slot : Nat) (s : State) : Outcome := .next (s.request l (.roundResume slot))

/-- ROUND_ABORT (R111). -/
def execRoundAbort (l : Link) (slot : Nat) (s : State) : Outcome := .next (s.request l (.roundAbort slot))

/-- PARK_ORDER (R125). -/
def execParkOrder (l : Link) (level : Coded Sev) (s : State) : Outcome := .next (s.request l (.parkOrder level))

/-- PARK_RELEASE (R125). -/
def execParkRelease (l : Link) (s : State) : Outcome := .next (s.request l (.parkRelease))

/-- STOW_ALL (R126). -/
def execStowAll (l : Link) (s : State) : Outcome := .next (s.request l (.stowAll))

/-- STOW_ALL_END (R126). -/
def execStowAllEnd (l : Link) (s : State) : Outcome := .next (s.request l (.stowAllEnd))

/-- HAZARD_ACK (R131). -/
def execHazardAck (l : Link) (h : Coded Hazard) (s : State) : Outcome := .next (s.request l (.hazardAck h))

/-- INTERVAL_REPORT (R153, R154). -/
def execIntervalReport (l : Link) (irradiation first count : Nat) (energies : List Nat) (s : State) : Outcome := .next (s.request l (.intervalReport irradiation first count energies))

/-- COEFF_WRITE (R164). -/
def execCoeffWrite (l : Link) (form : Coded CoeffForm) (s : State) : Outcome := .next (s.request l (.coeffWrite form))

/-- COEFF_COMMIT (R165). -/
def execCoeffCommit (l : Link) (s : State) : Outcome := .next (s.request l (.coeffCommit))

/-- COEFF_REVOKE (R165). -/
def execCoeffRevoke (l : Link) (s : State) : Outcome := .next (s.request l (.coeffRevoke))

/-- COEFF_READ (R165). -/
def execCoeffRead (l : Link) (set : Coded CoeffSetName) (first count : Nat) (s : State) : Outcome := .next (s.request l (.coeffRead set first count))

/-- ACCOUNT_READ (R170). -/
def execAccountRead (l : Link) (row : Nat) (s : State) : Outcome := .next (s.request l (.accountRead row))

/-- ACCOUNT_CLEAR (R171). -/
def execAccountClear (l : Link) (row : Option Nat) (s : State) : Outcome := .next (s.request l (.accountClear row))

/-- WINDOW_TEST (R52). -/
def execWindowTest (l : Link) (link : Coded Link) (row : Nat) (s : State) : Outcome := .next (s.request l (.windowTest link row))

/-- CONFIG_WRITE (R186). -/
def execConfigWrite (l : Link) (item : Item) (s : State) : Outcome := .next (s.request l (.configWrite item))

/-- CONFIG_READ (R186). -/
def execConfigRead (l : Link) (item : ItemRef) (s : State) : Outcome := .next (s.request l (.configRead item))

/-- CONFIG_APPLY (R187). -/
def execConfigApply (l : Link) (s : State) : Outcome := .next (s.request l (.configApply))

/-- CONFIG_SAVE (R188, R189). -/
def execConfigSave (l : Link) (s : State) : Outcome := .next (s.request l (.configSave))

/-- RESTART (R190). -/
def execRestart (l : Link) (s : State) : Outcome := .next (s.request l (.restart))

end Sys2Proof.Machine
end

