-- ==== Sys2Proof/Machine/Dispatch.lean ====
section
/-! DEFINITION. The meaning of each command, one arm for each. -/

namespace Sys2Proof.Machine

def exec (i : Instr) (s : State) : Host.Outcome State Fault Refusal :=
  match i with
  | .fullReset storeWriting => Sys2Proof.Machine.execFullReset storeWriting s
  | .vbatLoss => Sys2Proof.Machine.execVbatLoss s
  | .loadEnd found => Sys2Proof.Machine.execLoadEnd found s
  | .frameComplete l type tag body => Sys2Proof.Machine.execFrameComplete l type tag body s
  | .frameCrcError l => Sys2Proof.Machine.execFrameCrcError l s
  | .interbyteGap l => Sys2Proof.Machine.execInterbyteGap l s
  | .status l => Sys2Proof.Machine.execStatus l s
  | .fetchNotice l => Sys2Proof.Machine.execFetchNotice l s
  | .permitQuery l first count form => Sys2Proof.Machine.execPermitQuery l first count form s
  | .robotQuery l first count => Sys2Proof.Machine.execRobotQuery l first count s
  | .carriageQuery l => Sys2Proof.Machine.execCarriageQuery l s
  | .roundQuery l => Sys2Proof.Machine.execRoundQuery l s
  | .zoneQuery l => Sys2Proof.Machine.execZoneQuery l s
  | .hazardQuery l => Sys2Proof.Machine.execHazardQuery l s
  | .trackerReport l count entries => Sys2Proof.Machine.execTrackerReport l count entries s
  | .trackerSilenceExpiry row => Sys2Proof.Machine.execTrackerSilenceExpiry row s
  | .censusExpiry => Sys2Proof.Machine.execCensusExpiry s
  | .entryRequest l robot row => Sys2Proof.Machine.execEntryRequest l robot row s
  | .approachExpiry row => Sys2Proof.Machine.execApproachExpiry row s
  | .guardInExpiry row => Sys2Proof.Machine.execGuardInExpiry row s
  | .guardOutExpiry row => Sys2Proof.Machine.execGuardOutExpiry row s
  | .boardingExpiry row => Sys2Proof.Machine.execBoardingExpiry row s
  | .robotReport l robot place row position battery => Sys2Proof.Machine.execRobotReport l robot place row position battery s
  | .passComplete l robot row => Sys2Proof.Machine.execPassComplete l robot row s
  | .robotSilenceExpiry robot => Sys2Proof.Machine.execRobotSilenceExpiry robot s
  | .lostRelease l robot => Sys2Proof.Machine.execLostRelease l robot s
  | .carriageReport l position => Sys2Proof.Machine.execCarriageReport l position s
  | .transferRequest l robot row => Sys2Proof.Machine.execTransferRequest l robot row s
  | .transferTimerExpiry => Sys2Proof.Machine.execTransferTimerExpiry s
  | .carriageClear l => Sys2Proof.Machine.execCarriageClear l s
  | .roundStart l slot robot spec => Sys2Proof.Machine.execRoundStart l slot robot spec s
  | .roundPause l slot => Sys2Proof.Machine.execRoundPause l slot s
  | .roundResume l slot => Sys2Proof.Machine.execRoundResume l slot s
  | .roundAbort l slot => Sys2Proof.Machine.execRoundAbort l slot s
  | .anemPulse ch => Sys2Proof.Machine.execAnemPulse ch s
  | .windEvaluation => Sys2Proof.Machine.execWindEvaluation s
  | .hazNSample high => Sys2Proof.Machine.execHazNSample high s
  | .parkOrder l level => Sys2Proof.Machine.execParkOrder l level s
  | .parkRelease l => Sys2Proof.Machine.execParkRelease l s
  | .stowAll l => Sys2Proof.Machine.execStowAll l s
  | .stowAllEnd l => Sys2Proof.Machine.execStowAllEnd l s
  | .hazardReviewBoundary => Sys2Proof.Machine.execHazardReviewBoundary s
  | .hazardAck l h => Sys2Proof.Machine.execHazardAck l h s
  | .forcedStowExpiry row => Sys2Proof.Machine.execForcedStowExpiry row s
  | .intervalReport l irradiation first count energies => Sys2Proof.Machine.execIntervalReport l irradiation first count energies s
  | .coeffWrite l form => Sys2Proof.Machine.execCoeffWrite l form s
  | .coeffCommit l => Sys2Proof.Machine.execCoeffCommit l s
  | .coeffRevoke l => Sys2Proof.Machine.execCoeffRevoke l s
  | .coeffRead l set first count => Sys2Proof.Machine.execCoeffRead l set first count s
  | .accountRead l row => Sys2Proof.Machine.execAccountRead l row s
  | .accountClear l row => Sys2Proof.Machine.execAccountClear l row s
  | .windowTest l link row => Sys2Proof.Machine.execWindowTest l link row s
  | .configWrite l item => Sys2Proof.Machine.execConfigWrite l item s
  | .configRead l item => Sys2Proof.Machine.execConfigRead l item s
  | .configApply l => Sys2Proof.Machine.execConfigApply l s
  | .configSave l => Sys2Proof.Machine.execConfigSave l s
  | .saveComplete readBackMatches => Sys2Proof.Machine.execSaveComplete readBackMatches s
  | .saveTimeout => Sys2Proof.Machine.execSaveTimeout s
  | .restart l => Sys2Proof.Machine.execRestart l s
  | .byteReceived l byte => Sys2Proof.Machine.execByteReceived l byte s
  | .stopBitMissing l => Sys2Proof.Machine.execStopBitMissing l s
  | .replySent l => Sys2Proof.Machine.execReplySent l s
  | .resetRelease => Sys2Proof.Machine.execResetRelease s
  | .mainPowerLoss storeWriting => Sys2Proof.Machine.execMainPowerLoss storeWriting s

end Sys2Proof.Machine
end

