-- ==== Sys2Proof/Safety.lean ====
section
/-! DEFINITION. What a sound state of the RC-96 is: the laws that the spec states of every state (R137, R157, R159, R161,
R179, R181) as predicates on plain data, for the statements to use. -/

namespace Sys2Proof.Machine

/-- The law of R179: at most sixteen notices, and never two state-type notices of the same kind and subject. -/
def Port.queueLaw (p : Port) : Prop :=
  p.queue.length ≤ Config.noticeQueueSize ∧ (p.queue.filterMap (fun x => x.notice.subject)).Nodup

/-- The law of R181: the ATTN line is high exactly while the queue holds a notice. -/
def Port.attnLaw (p : Port) : Prop := p.attn = !p.queue.isEmpty

/-- The counters of a port stay within their widths (R173, R174, R179). -/
def Port.countLaw (p : Port) : Prop := p.drops ≤ 255 ∧ p.frameErrors ≤ 65535 ∧ p.overruns ≤ 65535

/-- The laws of one port. -/
def Port.lawful (p : Port) : Prop := p.queueLaw ∧ p.attnLaw ∧ p.countLaw

/-- The laws of the three ports. -/
def Liu.lawful (u : Liu) : Prop := ∀ l, (u.port l).lawful

/-- The law of R137 with R184: while the part has main power, PARK_OUT is asserted exactly when the part is not in RUN or
a zone is not CLEAR. -/
def Core.parkOutLaw (c : Core) : Prop := c.phase = .off ∨ c.parkOut = c.parkOutAsserted

/-- The balance of an account that R157 states: soil, clean and stow together with what was measured beyond surplus make
what was expected. -/
def Account.balanced (a : Account) : Prop := a.eExp + a.surplus = a.eMeas + a.soil + a.clean + a.stow

/-- The accounts are in balance, their soiling indices are per mille (R157, R159). -/
def Account.lawful (a : Account) : Prop := a.balanced ∧ a.sl ≤ 1000

/-- The laws of the account store. -/
def Store.lawful (s : Store) : Prop := ∀ r, (look s.rows {} r).lawful

/-- No two robots are recorded PARKED at one station (R59). -/
def Core.stationLaw (c : Core) : Prop :=
  ∀ i j r, (c.robot i).station = some r → (c.robot j).station = some r → i = j

/-- The transfer queue holds at most eight entries, and no robot twice, the robot of the active transfer included (R76,
R77). -/
def Carriage.queueLaw (k : Carriage) : Prop :=
  k.queue.length ≤ Config.transferQueueSize
  ∧ ((k.queue ++ k.active.toList).map (·.robot)).Nodup

/-- The counts of a span round (R97): cleaned, skipped and remaining make the initial count, and a held row remains. -/
def Slot.spanLaw (x : Slot) : Prop :=
  ∀ start count dir, x.spec = some (.span start count dir) →
    x.cleaned + x.skipped + x.remaining = count ∧ (x.current.isSome = true → 1 ≤ x.remaining)

/-- The laws of the rounds (R95, R97): the counts of the span rounds; a slot with a current row is RUNNING or SUSPENDED; a
claim is a slot's hold on its current row. -/
def Core.roundLaw (c : Core) : Prop :=
  (∀ k, (c.slot k).spanLaw)
  ∧ (∀ k, (c.slot k).current.isSome = true → (c.slot k).state = .running ∨ (c.slot k).state = .suspended)
  ∧ ∀ r k, (c.row r).claim = some k → ∃ p, (c.slot k).current = some (r, p)

/-- Every zone has the level that the latched hazards mapped to it give it, and is CLEAR exactly when that is none
(R135). -/
def Core.zoneLaw (c : Core) : Prop :=
  ∀ z, (c.zone z).level = c.zoneLevel z ∧ ((c.zone z).state = .clear ↔ (c.zone z).level = none)

/-- No hazard is latched before the load has ended (R124, R184). -/
def Core.quietStart (c : Core) : Prop := c.phase = .inReset ∨ c.phase = .loading → ∀ h, (c.hazard h).latched = false

/-- The law of the configuration (R184, R186): the values of the shadow keep their orderings, and in RUN they are the values
in force, LINK_RATE apart. -/
def Core.configLaw (c : Core) : Prop :=
  c.shadow.ordered = true ∧ (c.phase = .run → { c.cfg with linkRate := c.shadow.linkRate } = c.shadow)

/-! ### Naming a next state -/

/-- The state after `n` steps, if each answers a next state. -/
def State.after : Nat → State → Option State
  | 0, s => some s
  | n + 1, s =>
      match step s with
      | .next t => t.after n
      | .fault _ | .refused _ => none


/-- The link and the request of a command that is a request (R175). -/
def requestOf : Instr → Option (Link × Request)
  | .status l => some (l, .status)
  | .fetchNotice l => some (l, .fetchNotice)
  | .permitQuery l first count form => some (l, .permitQuery first count form)
  | .robotQuery l first count => some (l, .robotQuery first count)
  | .carriageQuery l => some (l, .carriageQuery)
  | .roundQuery l => some (l, .roundQuery)
  | .zoneQuery l => some (l, .zoneQuery)
  | .hazardQuery l => some (l, .hazardQuery)
  | .trackerReport l count entries => some (l, .trackerReport count entries)
  | .entryRequest l robot row => some (l, .entryRequest robot row)
  | .robotReport l robot place row position battery => some (l, .robotReport robot place row position battery)
  | .passComplete l robot row => some (l, .passComplete robot row)
  | .lostRelease l robot => some (l, .lostRelease robot)
  | .carriageReport l position => some (l, .carriageReport position)
  | .transferRequest l robot row => some (l, .transferRequest robot row)
  | .carriageClear l => some (l, .carriageClear)
  | .roundStart l slot robot spec => some (l, .roundStart slot robot spec)
  | .roundPause l slot => some (l, .roundPause slot)
  | .roundResume l slot => some (l, .roundResume slot)
  | .roundAbort l slot => some (l, .roundAbort slot)
  | .parkOrder l level => some (l, .parkOrder level)
  | .parkRelease l => some (l, .parkRelease)
  | .stowAll l => some (l, .stowAll)
  | .stowAllEnd l => some (l, .stowAllEnd)
  | .hazardAck l h => some (l, .hazardAck h)
  | .intervalReport l h first count energies => some (l, .intervalReport h first count energies)
  | .coeffWrite l form => some (l, .coeffWrite form)
  | .coeffCommit l => some (l, .coeffCommit)
  | .coeffRevoke l => some (l, .coeffRevoke)
  | .coeffRead l set first count => some (l, .coeffRead set first count)
  | .accountRead l row => some (l, .accountRead row)
  | .accountClear l row => some (l, .accountClear row)
  | .windowTest l link row => some (l, .windowTest link row)
  | .configWrite l item => some (l, .configWrite item)
  | .configRead l item => some (l, .configRead item)
  | .configApply l => some (l, .configApply)
  | .configSave l => some (l, .configSave)
  | .restart l => some (l, .restart)
  | .fullReset _ | .vbatLoss | .loadEnd _ | .frameComplete _ _ _ _ | .frameCrcError _ | .interbyteGap _
  | .trackerSilenceExpiry _ | .censusExpiry | .approachExpiry _ | .guardInExpiry _ | .guardOutExpiry _
  | .boardingExpiry _ | .robotSilenceExpiry _ | .transferTimerExpiry | .anemPulse _ | .windEvaluation | .hazNSample _
  | .hazardReviewBoundary | .forcedStowExpiry _ | .saveComplete _ | .saveTimeout | .byteReceived _ _
  | .stopBitMissing _ | .replySent _ | .resetRelease | .mainPowerLoss _ => none

/-- The state after an event that leaves the core `c` and hands the notices `ns` to the queues: the lines follow. -/
def State.told (s : State) (c : Core) (ns : List Notice) : State :=
  s.withPart (Part.drivePins ⟨ns.foldl (fun u n => u.deliver c.cfg n) s.part.liu, c⟩)

/-- The state after the end of the event `e`: its hand-offs, its zone tests, its notices and the lines. -/
def State.ends (s : State) (e : Ev) : State := s.withPart (s.part.finish e)

/-- The state with a reply built on link `l` (R174). -/
def State.answered (s : State) (l : Link) (t : ReqType) (r : Reply) : State :=
  s.withPart (s.part.modPort l (fun x => { x with reply := some ⟨replyType (codeOf t), none, r⟩ }))

/-- The reply last built on link `l`. -/
def State.replyOn (s : State) (l : Link) : Option Reply := (s.part.liu.port l).reply.map (·.reply)

/-- A tracker report's effect on the tracker fields of its row (R8 steps 1 to 3). -/
def Core.reported (c : Core) (x : TrackerEntry) : Core :=
  c.modRow x.row (fun r => { r with
    angle := reportedAngle x.angle
    tracker := x.state.getD .unknown
    age := some 0
    silence := some c.cfg.trackerSilence
    silent := false })

/-! ### What one event leaves alone -/

/-- The fields of a row record that no plain hand-off changes. -/
@[reducible] def RowRec.kept (x : RowRec) : RowRec :=
  { angle := x.angle, tracker := x.tracker, age := x.age, silent := x.silent, silence := x.silence, due := x.due
    latch := x.latch }

/-- The fields of a robot record that no hand-off changes. -/
@[reducible] def Robot.kept (x : Robot) : Robot := { x with round := none, lastOrder := none, returnFlag := false }

/-- The fields of a zone record that no plain hand-off changes: its level, and whether it is CLEAR. -/
@[reducible] def ZoneRec.kept (x : ZoneRec) : ZoneRec :=
  { level := x.level, state := if x.state = .clear then .clear else .securing }

/-- The core with everything blanked that a hand-off between the blocks may change, a zone evaluation apart. -/
def Core.kept (c : Core) : Core :=
  { c with
    rows := c.rows.map RowRec.kept
    robots := c.robots.map Robot.kept
    carriage := {}
    slots := Vector.replicate 4 {}
    zones := c.zones.map ZoneRec.kept }

/-- The core with everything blanked that a hand-off between the blocks may change. -/
def Core.keptButZones (c : Core) : Core := { c.kept with zones := Vector.replicate 8 {} }

end Sys2Proof.Machine
end

