-- ==== Sys2Proof/Certificates/Slice0/Obligations.lean ====
section
/-! DEFINITION. The statements about the RC-96 for the provers. Each names the rules it follows; what is the model's own
choice is said in its docstring with the log entry. A statement that gives a next state by `State.ends` names the event
as the owning block leaves it: its core, the hand-offs it makes and the notices it queues. One that gives it by
`State.told` names the whole next state. -/

open Sys2Proof Sys2Proof.Machine

/-! ### The machine -/

/-- The step takes the command at the front of the queue and executes it with the queue's rest. That an empty queue
leaves the part idle is the model's own (log entry 4). -/
def Obligations.StepRunsFrontCommand : Prop :=
  (∀ (i : Instr) (is : List Instr) (s : State), s.pending = i :: is → step s = exec i { s with pending := is })
  ∧ ∀ s : State, s.pending = [] → step s = .next s

/-- Every command completes in every state, and leaves the waiting commands alone. That a command whose event cannot occur
in the part's phase completes with no effect is the model's own (log entry 8). -/
def Obligations.EveryCommandCompletes : Prop :=
  ∀ (i : Instr) (s : State), ∃ p : Part, exec i s = .next { part := p, pending := s.pending }

/-! ### Tracker reports (chapter 1) -/

/-- R7, R8, R10 and R46 for a batch: the entries whose decode passes are applied in their order, the others change nothing,
and the counts of the reply add up to the entry count. Where no window is written between the entries each is decoded by the
windows that stand when the batch is taken, whatever becomes of the T-link flag, and where nothing is written between them,
of all else but permits, orders, rounds, carriage and zones nothing changes.
A batch is taken entry by entry: cut anywhere it acts as its two parts taken one after the other, with the counts of both, and
what is written before an entry acts as the same CONFIG WRITE of the P-link there, so on the entry and those behind it alone.
That the sender names what is written between two entries is the model's own (log entry 26). -/
def Obligations.TrackerReportAppliesPassedEntries : Prop :=
  ∀ (s : State) (count : Nat) (entries : List TrackerEntry), s.part.core.phase = .run →
    s.part.core.cfg.linkT = true → 1 ≤ count → count ≤ 60 → entries.length = count →
    (∀ x ∈ entries, reportable x.state = true) →
    let result := fun (clamped : Nat) => if clamped = 0 then Result.done else .clamped
    let batch := fun (xs : List TrackerEntry) => Instr.trackerReport .T xs.length xs
    let answer := fun (x : TrackerEntry) => s.part.core.decode .T .report x.row
    let passed := entries.filter (fun x => answer x == none)
    ∃ (t : State) (applied badRow notMapped denied clamped : Nat),
      exec (.trackerReport .T count entries) s = .next t
      ∧ t.replyOn .T = some ⟨result clamped, .tracker applied badRow notMapped denied clamped⟩
      ∧ applied + badRow + notMapped + denied = count ∧ clamped ≤ applied
      ∧ ((∀ x ∈ entries, ∀ i ∈ x.before, ∃ onT onF, i = .linkEnable onT onF) →
        applied = passed.length
        ∧ badRow = (entries.filter (fun x => decide (s.part.core.cfg.rows ≤ x.row))).length
        ∧ notMapped = (entries.filter (fun x => answer x == some .notMapped)).length
        ∧ denied = (entries.filter (fun x => answer x == some .denied)).length
        ∧ clamped = (passed.filter (fun x => decide (x.angle ≠ -32768 ∧ (x.angle < -900 ∨ 900 < x.angle)))).length)
      ∧ ((∀ x ∈ entries, x.before = []) →
        t.part.core.kept = { (passed.foldl Core.reported s.part.core).kept with parkOut := t.part.core.parkOut })
      ∧ (∀ xs ys : List TrackerEntry, entries = xs ++ ys → xs ≠ [] → ys ≠ [] →
        ∃ (t₁ : State) (a₁ b₁ n₁ d₁ c₁ : Nat), exec (batch xs) s = .next t₁
          ∧ t₁.replyOn .T = some ⟨result c₁, .tracker a₁ b₁ n₁ d₁ c₁⟩
          ∧ (t₁.part.core.cfg.linkT = true → ∃ (t₂ : State) (a₂ b₂ n₂ d₂ c₂ : Nat), exec (batch ys) t₁ = .next t₂
            ∧ t₂.replyOn .T = some ⟨result c₂, .tracker a₂ b₂ n₂ d₂ c₂⟩
            ∧ t = t₂.answered .T .trackerReport
                ⟨result (c₁ + c₂), .tracker (a₁ + a₂) (b₁ + b₂) (n₁ + n₂) (d₁ + d₂) (c₁ + c₂)⟩))
      ∧ ∀ (x : TrackerEntry) (item : Item) (rest : List Item) (ys : List TrackerEntry),
        entries = { x with before := item :: rest } :: ys →
        ∃ t₁ : State, exec (.configWrite .P item) s = .next t₁
          ∧ (t₁.part.core.cfg.linkT = true → exec (batch ({ x with before := rest } :: ys)) t₁ = .next t)

/-- R25, R26, R33 and R34 for one report on a row without a round claim in a CLEAR zone: HOLD_REQ goes to GUARD_IN when
the angle is inside the hold window and the tracker HOLDING or in FAULT, GUARD_IN goes back when not, the breach flag is
set by a breach angle in GUARD_IN, ENTRY or GUARD_OUT and cleared inside the window. Other rows keep their records. -/
def Obligations.TrackerReportMovesGuardedRow : Prop :=
  ∀ (s : State) (x : TrackerEntry), s.part.core.phase = .run → s.part.core.cfg.linkT = true →
    reportable x.state = true → x.before = [] → s.part.core.decode .T .report x.row = none → s.part.core.cfg.rows ≤ 96 →
    s.part.core.rowClear x.row = true → (s.part.core.row x.row).claim = none →
    ∃ t : State,
      let c := s.part.core
      let old := c.row x.row
      let new := t.part.core.row x.row
      let off := fun (a : Int) => (a - c.cfg.crossing).natAbs
      let inside := ∃ a, reportedAngle x.angle = some a ∧ off a ≤ c.cfg.crossTol
      let breaching := ∃ a, reportedAngle x.angle = some a ∧ c.cfg.breachTol < off a
      let held := inside ∧ (x.state = some .holding ∨ x.state = some .fault)
      exec (.trackerReport .T 1 [x]) s = .next t
      ∧ (∀ q, q ≠ x.row → t.part.core.row q = c.row q)
      ∧ new.approach = old.approach ∧ new.pending = old.pending ∧ new.boarding = old.boarding ∧ new.forced = old.forced
      ∧ (old.permit = .holdReq → held → new.permit = .guardIn ∧ new.guard = some c.cfg.guard)
      ∧ (old.permit = .guardIn → ¬held → new.permit = .holdReq ∧ new.guard = none)
      ∧ (¬(old.permit = .holdReq ∧ held) → ¬(old.permit = .guardIn ∧ ¬held) →
          new.permit = old.permit ∧ new.guard = old.guard)
      ∧ (inside → new.breach = false)
      ∧ (breaching → ¬inside → (old.permit = .guardIn ∨ old.permit = .entry ∨ old.permit = .guardOut) →
          new.breach = true
          ∧ (old.breach = false → ∀ i ∈ c.occupancy x.row, (c.robot i).state ≠ .anchored →
              (t.part.core.robot i).lastOrder = some (.anchor, (c.robot i).row)))
      ∧ (¬inside → ¬(breaching ∧ (old.permit = .guardIn ∨ old.permit = .entry ∨ old.permit = .guardOut)) →
          new.breach = old.breach)

/-- R12 and R13: the silence timer of a present row has run down and expires. The tracker state becomes UNKNOWN, the silent
flag is set, the timer stops, TRACKER_SILENT is queued, and nothing else changes but the mixed flag, which R162 sets on a
change of mode. -/
def Obligations.TrackerSilenceExpiry : Prop :=
  ∀ (s : State) (r : Nat), s.part.core.phase = .run → r < s.part.core.cfg.rows →
    (s.part.core.row r).silence = some 0 →
    exec (.trackerSilenceExpiry r) s = .next (s.told
      (s.part.core.modRow r (fun x =>
        RowRec.compareMode { x with tracker := .unknown, silent := true, silence := none }))
      [.trackerSilent r true])

/-! ### Permits (chapter 2) -/

/-- R22: the census expires. Each present STILL row with an empty occupancy goes to FREE_MOTION or, in a zone that is not
CLEAR, to STOW; no other row changes, PERMIT is queued for these rows in ascending order, and the expiry is handed to the
Round Engine after the rows. With every zone CLEAR and no round on a row that is all that happens to the rows. -/
def Obligations.CensusExpiry : Prop :=
  ∀ s : State, s.part.core.phase = .run → s.part.core.census = some 0 → s.part.core.cfg.rows ≤ 96 →
    ∃ e : Ev,
      let c := s.part.core
      let leaves := fun (r : Nat) => r < c.cfg.rows ∧ (c.row r).permit = .still ∧ c.occupancy r = []
      exec .censusExpiry s = .next (s.ends e)
      ∧ e.core.census = none
      ∧ (∀ r, leaves r → c.rowClear r = true → (e.core.row r).permit = .freeMotion)
      ∧ (∀ r, leaves r → c.rowClear r = false → (e.core.row r).permit = .stow)
      ∧ (∀ r, ¬leaves r → e.core.row r = c.row r)
      ∧ e.out = ((List.range 96).filter (fun r =>
          decide (r < c.cfg.rows) && (c.row r).permit == .still && (c.occupancy r).isEmpty)).map Announcement.permit
      ∧ { e.core with rows := c.rows, census := c.census } = c
      ∧ e.work.getLast? = some .censusEnded
      ∧ ((∀ z, c.zoneClear z = true) → (∀ r, (c.row r).claim = none) → (∀ k, (c.slot k).current = none) →
          (s.ends e).part.core = { e.core with parkOut := false })

/-- R23: the first check of an entry request that fails gives the reply, and the request changes nothing. -/
def Obligations.EntryRequestChecks : Prop :=
  ∀ (s : State) (i r : Nat), s.part.core.phase = .run →
    let c := s.part.core
    let answered := fun (x : Result) =>
      exec (.entryRequest .F i r) s = .next ((s.told c []).answered .F .entryRequest (refuse x))
    let x := c.row r
    let decoded := c.decode .F .entry r = none
    let located := decoded ∧ c.installed i = true ∧ c.census = none
    let free := located ∧ (x.permit = .freeMotion ∨ x.permit = .guardOut) ∧ c.rowClear r = true
    let stationed := free ∧ (c.robot i).station = some r
    let empty := stationed ∧ c.occupancy r = [] ∧ x.pending = none
    (∀ y, c.decode .F .entry r = some y → answered y)
    ∧ (decoded → c.installed i = false → answered .badRobot)
    ∧ (decoded → c.installed i = true → c.census.isSome = true → answered .busy)
    ∧ (located → x.permit = .stow → answered .parking)
    ∧ (located → x.permit ≠ .stow → x.permit ≠ .freeMotion → x.permit ≠ .guardOut → answered .busy)
    ∧ (located → (x.permit = .freeMotion ∨ x.permit = .guardOut) → c.rowClear r = false → answered .parking)
    ∧ (free → (c.robot i).station ≠ some r → answered .state)
    ∧ (stationed → (c.occupancy r ≠ [] ∨ x.pending.isSome = true) → answered .busy)
    ∧ (empty → x.claim.isSome = true → answered .busy)
    ∧ (empty → x.claim = none → c.carriage.carries i = true → answered .busy)

/-- R24: an entry request that passes every check of R23. In GUARD_OUT with the angle inside the hold window the row goes
to ENTRY with the entry granted and the boarding timer started; else it goes to HOLD_REQ with the approach timer. -/
def Obligations.EntryRequestTaken : Prop :=
  ∀ (s : State) (i r : Nat), s.part.core.phase = .run → r < 96 →
    let c := s.part.core
    let x := c.row r
    c.decode .F .entry r = none → c.installed i = true → c.census = none →
    (x.permit = .freeMotion ∨ x.permit = .guardOut) → c.rowClear r = true → (c.robot i).station = some r →
    c.occupancy r = [] → x.pending = none → x.claim = none → c.carriage.carries i = false →
    (x.permit = .guardOut → c.inWindow r = true →
      exec (.entryRequest .F i r) s = .next ((s.told
        (c.modRow r (fun x => RowRec.compareMode { x with
          permit := .entry, guard := none, boarding := some c.cfg.approach, pending := some ⟨i, .fleet, true⟩ }))
        [.permit r .entry x.forced x.breach, .entryGrant r i .fleet]).answered .F .entryRequest (refuse .granted)))
    ∧ (¬(x.permit = .guardOut ∧ c.inWindow r = true) →
      exec (.entryRequest .F i r) s = .next ((s.told
        (c.modRow r (fun x => RowRec.compareMode { x with
          permit := .holdReq, guard := none, approach := some c.cfg.approach, pending := some ⟨i, .fleet, false⟩ }))
        [.permit r .holdReq x.forced x.breach]).answered .F .entryRequest (refuse .accepted)))

/-- R28: the approach timer expires. The entry fails TRACKER_TIMEOUT, the timers stop, the row goes to FREE_MOTION or to
STOW; a slot's entry and a claimed row are handed to the Round Engine. -/
def Obligations.ApproachExpiry : Prop :=
  ∀ (s : State) (r : Nat) (p : PendingEntry), s.part.core.phase = .run →
    let c := s.part.core
    let x := c.row r
    x.approach = some 0 → (x.permit = .holdReq ∨ x.permit = .guardIn) → x.pending = some p →
    let c' := c.modRow r (fun x => RowRec.compareMode { x with
      permit := if c.rowClear r then .freeMotion else .stow
      approach := none, guard := none, boarding := none, pending := none, breach := false })
    exec (.approachExpiry r) s = .next (s.ends
      ⟨c', p.origin.hand (.entryFailed · r) ++ x.handChange r,
        [.note (.entryFailed r p.robot p.origin .trackerTimeout), .permit r]⟩)
    ∧ (c.rowClear r = true → x.claim = none → p.origin = .fleet → exec (.approachExpiry r) s = .next (s.told c'
        [.entryFailed r p.robot .fleet .trackerTimeout, .permit r .freeMotion x.forced false]))

/-- R27: the guard timer of a GUARD_IN row expires. The row goes to ENTRY; a pending entry becomes granted with a boarding
timer, a recovery hold grants the lowest-numbered robot of the occupancy. -/
def Obligations.GuardInExpiry : Prop :=
  ∀ (s : State) (r : Nat), s.part.core.phase = .run →
    let c := s.part.core
    let x := c.row r
    x.guard = some 0 → x.permit = .guardIn →
    (∀ p, x.pending = some p →
      let c' := c.modRow r (fun x => RowRec.compareMode { x with
        permit := .entry, approach := none, guard := none, boarding := some c.cfg.approach
        pending := some { p with granted := true } })
      exec (.guardInExpiry r) s = .next (s.ends
        ⟨c', x.handChange r ++ p.origin.hand (.entryGranted · r),
          [.permit r, .note (.entryGrant r p.robot p.origin)]⟩)
      ∧ (c.rowClear r = true → x.claim = none → p.origin = .fleet → exec (.guardInExpiry r) s = .next (s.told c'
          [.permit r .entry x.forced x.breach, .entryGrant r p.robot .fleet])))
    ∧ (∀ i, x.pending = none → c.occupant r = some i →
      exec (.guardInExpiry r) s = .next (s.ends
        ⟨c.modRow r (fun x => RowRec.compareMode { x with
            permit := .entry, approach := none, guard := none, boarding := none }),
          x.handChange r, [.permit r, .note (.entryGrant r i .recovery)]⟩))

/-- R32: the guard timer of a GUARD_OUT row expires. An entry left pending fails NOT_BOARDED, and the row goes to STILL in
a census, to STOW in a zone that is not CLEAR, to FREE_MOTION otherwise. -/
def Obligations.GuardOutExpiry : Prop :=
  ∀ (s : State) (r : Nat), s.part.core.phase = .run →
    let c := s.part.core
    let x := c.row r
    x.guard = some 0 → x.permit = .guardOut →
    let permit : Permit := if c.census.isSome then .still else if c.rowClear r then .freeMotion else .stow
    let c' := c.modRow r (fun x => RowRec.compareMode { x with
      permit := permit, guard := none, pending := none
      breach := x.breach && decide (permit = .still) })
    (x.pending = none → exec (.guardOutExpiry r) s = .next (s.ends ⟨c', x.handChange r, [.permit r]⟩))
    ∧ (∀ p, x.pending = some p → exec (.guardOutExpiry r) s = .next (s.ends
        ⟨c', p.origin.hand (.entryFailed · r) ++ x.handChange r,
          [.note (.entryFailed r p.robot p.origin .notBoarded), .permit r]⟩))
    ∧ (c.rowClear r = true → c.census = none → x.claim = none → x.pending = none →
        exec (.guardOutExpiry r) s = .next (s.told c' [.permit r .freeMotion x.forced false]))

/-- R29: the boarding timer expires with the granted robot not on the panels. The entry fails NOT_BOARDED; an empty row
goes to GUARD_OUT with a guard, a row with another robot on it stays in ENTRY. -/
def Obligations.BoardingExpiry : Prop :=
  ∀ (s : State) (r : Nat) (p : PendingEntry), s.part.core.phase = .run →
    let c := s.part.core
    let x := c.row r
    let empty := c.modRow r (fun x => RowRec.compareMode { x with
      permit := .guardOut, boarding := none, pending := none, guard := some c.cfg.guard })
    let occupied := c.modRow r (fun x => { x with boarding := none, pending := none })
    x.boarding = some 0 → x.permit = .entry → x.pending = some p →
    (c.occupancy r = [] → exec (.boardingExpiry r) s = .next (s.ends
        ⟨empty, p.origin.hand (.entryFailed · r) ++ x.handChange r,
          [.note (.entryFailed r p.robot p.origin .notBoarded), .permit r]⟩))
    ∧ (c.occupancy r = [] → c.rowClear r = true → x.claim = none → p.origin = .fleet →
      exec (.boardingExpiry r) s = .next (s.told empty
        [.entryFailed r p.robot .fleet .notBoarded, .permit r .guardOut x.forced x.breach]))
    ∧ (c.occupancy r ≠ [] → exec (.boardingExpiry r) s = .next (s.ends
        ⟨occupied, p.origin.hand (.entryFailed · r), [.note (.entryFailed r p.robot p.origin .notBoarded)]⟩))
    ∧ (c.occupancy r ≠ [] → p.origin = .fleet →
      exec (.boardingExpiry r) s = .next (s.told occupied [.entryFailed r p.robot .fleet .notBoarded]))

/-! ### Occupancy and the permit (chapter 2) -/

/-- R29, R35 and R36: a robot that enters the panels, and one on them that releases its anchor. The granted robot of an ENTRY
row consumes its entry; any other robot is an intruder: it takes a row of another permit but STOW to ENTRY, and sets the
forced flag of a STOW row. A released anchor does as an intruder on a STOW row, and ends a recovery hold with ENTRY and
ENTRY_GRANT of origin RECOVERY. -/
def Obligations.PanelsEnteredMovesPermit : Prop :=
  ∀ (e : Ev) (r i : Nat), r < 96 →
    let old := e.core.row r
    let e' := e.handle (.panelsEntered r i)
    let new := e'.core.row r
    let a' := e.handle (.anchorReleased r i)
    let anew := a'.core.row r
    let granted := ∃ p, old.pending = some p ∧ p.robot = i
    (∀ q, q ≠ r → e'.core.row q = e.core.row q)
    ∧ (old.permit ≠ .entry → old.permit ≠ .stow →
        new.permit = .entry ∧ new.approach = none ∧ new.guard = none ∧ new.boarding = none ∧ new.pending = none
        ∧ e'.out.contains (.note (.intrusion r i old.permit)) = true
        ∧ (∀ p, old.pending = some p → p.robot = i → e'.out.contains (.note (.entryGrant r i p.origin)) = true)
        ∧ (∀ p, old.pending = some p → p.robot ≠ i →
            e'.out.contains (.note (.entryFailed r p.robot p.origin .intrusion)) = true))
    ∧ (old.permit = .entry → granted → e' = e.modRow r (fun x => { x with pending := none, boarding := none }))
    ∧ (old.permit = .entry → ¬granted → e' = e.note (.intrusion r i .entry))
    ∧ (old.permit = .stow → e' = (e.modRow r (fun x => { x with forced := true })).note (.intrusion r i .stow))
    ∧ (∀ q, q ≠ r → a'.core.row q = e.core.row q)
    ∧ (old.permit = .stow → a' = (e.modRow r (fun x => { x with forced := true })).note (.intrusion r i .stow))
    ∧ ((old.permit = .holdReq ∨ old.permit = .guardIn) → old.pending = none →
        anew.permit = .entry ∧ anew.approach = none ∧ anew.guard = none ∧ anew.boarding = none ∧ anew.pending = none
        ∧ a'.out.contains (.note (.entryGrant r i .recovery)) = true
        ∧ a'.out.contains (.note (.intrusion r i old.permit)) = true)
    ∧ ((old.permit = .still ∨ old.permit = .freeMotion ∨ old.permit = .entry ∨ old.permit = .guardOut) → a' = e)

/-- R30, R31, R37, R39 and R40: the panels of a row become empty or its last robot anchors, the robot of its pending entry
leaves its station, and its zone parks. A departure drops the entry ROBOT_GONE, but for a boarding; a parking zone takes each
of its rows on by the row's permit. -/
def Obligations.PanelsEmptiedMovesPermit : Prop :=
  (∀ (e : Ev) (r : Nat), r < 96 → (e.core.row r).claim = none →
    let old := e.core.row r
    let e' := e.handle (.panelsEmptied r)
    let new := e'.core.row r
    let a' := e.handle (.anchorSet r)
    (∀ q, q ≠ r → e'.core.row q = e.core.row q)
    ∧ (old.permit = .entry →
        new.permit = .guardOut ∧ new.boarding = none ∧ new.guard = some e.core.cfg.guard ∧ e'.work = e.work
        ∧ new.pending = old.pending.map (fun p => { p with granted := false })
        ∧ e'.out = e.out ++ [.permit r])
    ∧ ((old.permit = .holdReq ∨ old.permit = .guardIn) → old.pending = none →
        new.permit = .guardOut ∧ new.guard = some e.core.cfg.guard ∧ e'.out = e.out ++ [.permit r])
    ∧ (old.permit = .still → e' = e)
    ∧ (old.permit = .stow → e.core.rowClear r = false → e' = e ∧ a' = e)
    ∧ (old.permit = .stow → e.core.rowClear r = true → e.core.occupancy r = [] →
        new.permit = (if e.core.census.isSome then .still else .freeMotion) ∧ new.forced = false
        ∧ e'.out = e.out ++ [.permit r])
    ∧ (old.permit = .stow → e.core.rowClear r = true → e.core.occupancy r ≠ [] → e.core.unanchored r = [] →
        (a'.core.row r).permit = .holdReq ∧ (a'.core.row r).pending = old.pending
        ∧ (a'.core.row r).approach = old.approach ∧ (a'.core.row r).forced = false ∧ a'.out = e.out ++ [.permit r])
    ∧ (old.permit = .stow → e.core.unanchored r ≠ [] → e' = e ∧ a' = e)
    ∧ (old.permit ≠ .stow → a' = e))
  ∧ (∀ (e : Ev) (r i : Nat), r < 96 → (e.core.row r).claim = none →
    let old := e.core.row r
    let d := e.handle (.stationLeft r i)
    let gone := (e.core.robot i).panelRow ≠ some r ∧ (e.core.robot i).station ≠ some r
    ((∀ p, old.pending = some p → p.robot ≠ i) → d = e)
    ∧ (¬gone → d = e)
    ∧ ∀ p, old.pending = some p → p.robot = i → gone →
      let drops := fun (f : RowRec → RowRec) (out : List Announcement) =>
        d = ⟨e.core.modRow r f, e.work ++ p.origin.hand (.entryFailed · r),
          e.out ++ .note (.entryFailed r i p.origin .robotGone) :: out⟩
      ((old.permit = .holdReq ∨ old.permit = .guardIn) → drops (fun x => RowRec.compareMode { x with
          permit := if e.core.rowClear r then .freeMotion else .stow
          approach := none, guard := none, boarding := none, pending := none, breach := false }) [.permit r])
      ∧ (old.permit = .entry → e.core.occupancy r = [] → drops (fun x => RowRec.compareMode { x with
          permit := .guardOut, approach := none, guard := some e.core.cfg.guard, boarding := none, pending := none })
          [.permit r])
      ∧ (old.permit = .entry → e.core.occupancy r ≠ [] → drops (fun x => { x with
          approach := none, guard := none, boarding := none, pending := none }) [])
      ∧ (old.permit = .guardOut → drops (fun x => { x with pending := none }) []))
  ∧ ∀ (e : Ev) (z : Nat), e.core.cfg.rows ≤ 96 →
    let c := e.core
    let d := e.handle (.permitZoneParked z)
    let inZone := fun (r : Nat) => r < c.cfg.rows ∧ c.zoneOf r = z
    (c.phase ≠ .run → d = e)
    ∧ { d.core with rows := c.rows } = c
    ∧ (∀ r, ¬inZone r → d.core.row r = c.row r)
    ∧ ∀ r, c.phase = .run → inZone r →
      let x := c.row r
      let new := d.core.row r
      let told := d.out.contains (.permit r) = true
        ∧ ∀ p, x.pending = some p → x.permit ≠ .freeMotion → x.permit ≠ .still →
            d.out.contains (.note (.entryFailed r p.robot p.origin .parking)) = true
      ((x.permit = .freeMotion ∨ x.permit = .still) →
        new = RowRec.compareMode { x with permit := .stow, breach := false } ∧ told)
      ∧ ((x.permit = .holdReq ∨ x.permit = .guardIn) → new = RowRec.compareMode { x with
          permit := .stow, approach := none, guard := none, boarding := none, pending := none, breach := false } ∧ told)
      ∧ (x.permit = .entry → c.occupancy r = [] → new = RowRec.compareMode { x with
          permit := .guardOut, guard := some c.cfg.guard, boarding := none, pending := none } ∧ told)
      ∧ (x.permit = .entry → c.occupancy r ≠ [] → new = x)
      ∧ ((x.permit = .guardOut ∨ x.permit = .stow) → new = x)

/-! ### Access windows (chapter 3) -/

/-- R44, R45 and R52: WINDOW TEST shows the flag of the link, the first window that matches and its rights, and every
decode of the link and the row answers by them. A row that is not present is BAD_ROW for both. -/
def Obligations.WindowTestShowsDecode : Prop :=
  ∀ (s : State) (l : Link) (r : Nat), s.part.core.phase = .run →
    let c := s.part.core
    let matching := fun (n : Nat) => n < 12 ∧ (c.cfg.window n).enabled = true ∧ (c.cfg.window n).base ≤ r
      ∧ r ≤ (c.cfg.window n).limit ∧ LinkSet.has (c.cfg.window n).links l = true
    (r < c.cfg.rows →
      ∃ (w : Option Nat) (rights : RightSet),
        exec (.windowTest .P (some l) r) s
          = .next (s.answered .P .windowTest ⟨.done, .windowTest (c.cfg.enabled l) w rights⟩)
        ∧ (∀ n, w = some n ↔ matching n ∧ ∀ m, m < n → ¬matching m)
        ∧ (∀ n, w = some n → rights = (c.cfg.window n).rights)
        ∧ (w = none → rights = ⟨false, false, false, false⟩)
        ∧ ∀ x : Right,
          (c.cfg.enabled l = false → c.decode l x r = some .portDisabled)
          ∧ (c.cfg.enabled l = true → w = none → c.decode l x r = some .notMapped)
          ∧ (c.cfg.enabled l = true → w.isSome = true → RightSet.has rights x = true → c.decode l x r = none)
          ∧ (c.cfg.enabled l = true → w.isSome = true → RightSet.has rights x = false →
              c.decode l x r = some .denied))
    ∧ (c.cfg.rows ≤ r →
      exec (.windowTest .P (some l) r) s = .next (s.answered .P .windowTest (refuse .badRow))
      ∧ ∀ x : Right, c.decode l x r = some .badRow)

/-! ### The fleet table (chapter 4) -/

/-- R57 to R63: a report of a robot that is not LOST puts it where it says it is, restarts its silence timer and takes over
its readings. A robot it displaces from a station becomes LOST there (R59). All other robots, and all that no hand-off
between the blocks changes, stay. -/
def Obligations.RobotReportPlacesRobot : Prop :=
  ∀ (s : State) (i : Nat) (place : Place) (r : Nat) (position battery : Option Nat), s.part.core.phase = .run →
    s.part.core.cfg.linkF = true → s.part.core.installed i = true →
    (place ≠ .onCarriage → r < s.part.core.cfg.rows) → (s.part.core.robot i).state ≠ .lost → s.part.core.stationLaw →
    ∃ t : State,
      let c := s.part.core
      let old := c.robot i
      let new := t.part.core.robot i
      let onPanels := old.state = .cleaning ∨ old.state = .returning ∨ old.state = .anchored ∨ old.state = .stranded
      let displaces := fun (j : Nat) => place = .atStation ∧ (old.state, old.row) ≠ (.parked, some r) ∧ j ≠ i
        ∧ (c.robot j).station = some r
      exec (.robotReport .F i (some place) r position battery) s = .next t
      ∧ t.replyOn .F = some ⟨if position.any (fun p => decide (1000 < p)) || battery.any (fun b => decide (100 < b))
          then .clamped else .done, .robot new.state old.recoveryCount⟩
      ∧ new.silence = some c.cfg.silence
      ∧ new.battery = (battery.map (min 100)).or old.battery
      ∧ new.position = (if place = .onCarriage then none else (position.map (min 1000)).or old.position)
      ∧ (place = .atStation → new.state = .parked ∧ new.row = some r ∧ new.onPanelsAtLoss = false)
      ∧ (place = .onCarriage → new.state = .onCarriage ∧ new.row = none)
      ∧ (place = .anchored → new.state = .anchored ∧ new.row = some r)
      ∧ (place = .onPanels → new.row = some r
          ∧ (¬onPanels → new.state = .cleaning)
          ∧ (old.state = .cleaning → new.state = if old.returnFlag then .returning else .cleaning)
          ∧ (onPanels → old.state ≠ .cleaning → new.state = .returning))
      ∧ (place = .fault → onPanels → new.state = .stranded ∧ new.row = some r)
      ∧ (place = .fault → ¬onPanels → new.state = old.state ∧ new.row = old.row)
      ∧ (∀ j, displaces j → (t.part.core.robot j).state = .lost ∧ (t.part.core.robot j).row = some r
          ∧ (t.part.core.robot j).onPanelsAtLoss = false ∧ (t.part.core.robot j).recoveryCount = 0
          ∧ (t.part.core.robot j).silence = none)
      ∧ (∀ j, j ≠ i → ¬displaces j → (t.part.core.robot j).kept = (c.robot j).kept)
      ∧ { t.part.core.kept with robots := c.kept.robots, parkOut := c.parkOut } = c.kept

/-- R56 and R64: the checks of ROBOT REPORT and PASS COMPLETE. A refused request changes nothing. -/
def Obligations.FleetReportChecks : Prop :=
  ∀ (s : State) (i r : Nat) (place : Place) (position battery : Option Nat), s.part.core.phase = .run →
    let c := s.part.core
    let x := c.robot i
    let report := Instr.robotReport .F i (some place) r position battery
    let pass := Instr.passComplete .F i r
    let answered := fun (i : Instr) (t : ReqType) (x : Result) =>
      exec i s = .next ((s.told c []).answered .F t (refuse x))
    (c.cfg.linkF = false → exec report s = .next (s.answered .F .robotReport (refuse .portDisabled))
      ∧ exec pass s = .next (s.answered .F .passComplete (refuse .portDisabled)))
    ∧ (c.cfg.linkF = true → c.installed i = false →
        answered report .robotReport .badRobot ∧ answered pass .passComplete .badRobot)
    ∧ (c.cfg.linkF = true → c.installed i = true → c.cfg.rows ≤ r →
        (place ≠ .onCarriage → answered report .robotReport .badRow) ∧ answered pass .passComplete .badRow)
    ∧ (c.cfg.linkF = true → c.installed i = true → r < c.cfg.rows →
        ¬((x.state = .cleaning ∨ x.state = .returning) ∧ x.row = some r) → answered pass .passComplete .state)

/-- R68 and R69: a LOST robot is recovered by RECOVERY reports of one place. Until then a report changes its count, its
recovery place and its timer alone; with the last one it takes over the report's readings and the place the table of R69
gives. A robot it displaces from a station becomes LOST there (R59); all other robots, and all that no hand-off between the
blocks changes, stay. That a report of another place starts the count at 1 under a lowered RECOVERY too is the model's own
(log entry 38). -/
def Obligations.RecoveryReports : Prop :=
  ∀ (s : State) (i : Nat) (place : Place) (r : Nat) (position battery : Option Nat), s.part.core.phase = .run →
    s.part.core.cfg.linkF = true → s.part.core.installed i = true →
    (place ≠ .onCarriage → r < s.part.core.cfg.rows) → (s.part.core.robot i).state = .lost →
    let c := s.part.core
    let old := c.robot i
    let named : Place × Option Nat := (place, if place = .onCarriage then none else some r)
    let count := if old.recoveryPlace = some named then old.recoveryCount + 1 else 1
    let result : Result := if position.any (fun p => decide (1000 < p)) || battery.any (fun b => decide (100 < b))
      then .clamped else .done
    let displaces := fun (j : Nat) => place = .atStation ∧ j ≠ i ∧ (c.robot j).station = some r
    (count < c.cfg.recovery →
      exec (.robotReport .F i (some place) r position battery) s = .next ((s.told
        (c.modRobot i (fun x => { x with
          silence := some c.cfg.silence, recoveryCount := count, recoveryPlace := some named }))
        []).answered .F .robotReport ⟨result, .robot .lost count⟩))
    ∧ (c.cfg.recovery ≤ count → ∃ t : State,
        let new := t.part.core.robot i
        exec (.robotReport .F i (some place) r position battery) s = .next t
        ∧ t.replyOn .F = some ⟨result, .robot new.state 0⟩
        ∧ new.silence = some c.cfg.silence ∧ new.recoveryCount = 0 ∧ new.recoveryPlace = none
        ∧ new.onPanelsAtLoss = false
        ∧ (place = .atStation → new.state = .parked ∧ new.row = some r)
        ∧ (place = .onPanels → new.state = .returning ∧ new.row = some r)
        ∧ (place = .anchored → new.state = .anchored ∧ new.row = some r)
        ∧ (place = .onCarriage → new.state = .onCarriage ∧ new.row = none)
        ∧ (place = .fault → old.onPanelsAtLoss = true → new.state = .stranded ∧ new.row = some r)
        ∧ (place = .fault → old.onPanelsAtLoss = false → new.state = .unseen ∧ new.row = none)
        ∧ new.battery = (battery.map (min 100)).or old.battery
        ∧ new.position = (if place = .onCarriage then none else (position.map (min 1000)).or old.position)
        ∧ (c.stationLaw → ∀ j, displaces j → (t.part.core.robot j).state = .lost ∧ (t.part.core.robot j).row = some r
            ∧ (t.part.core.robot j).onPanelsAtLoss = false ∧ (t.part.core.robot j).recoveryCount = 0
            ∧ (t.part.core.robot j).silence = none)
        ∧ (∀ j, j ≠ i → ¬displaces j → (t.part.core.robot j).kept = (c.robot j).kept)
        ∧ { t.part.core.kept with robots := c.kept.robots, parkOut := c.parkOut } = c.kept)

/-- R64 and R167: a taken PASS COMPLETE parks the robot at the row's station, credits the row with a clean and clears its
due flag. -/
def Obligations.PassCompleteCreditsRow : Prop :=
  ∀ (s : State) (i r : Nat), s.part.core.phase = .run → s.part.core.cfg.linkF = true →
    s.part.core.installed i = true → r < s.part.core.cfg.rows → s.part.core.cfg.rows ≤ 96 →
    ((s.part.core.robot i).state = .cleaning ∨ (s.part.core.robot i).state = .returning) →
    (s.part.core.robot i).row = some r →
    ∃ t : State,
      let c := s.part.core
      let a := c.account r
      exec (.passComplete .F i r) s = .next t
      ∧ t.replyOn .F = some (refuse .done)
      ∧ (t.part.core.robot i).state = .parked ∧ (t.part.core.robot i).row = some r
      ∧ (t.part.core.robot i).silence = some c.cfg.silence
      ∧ (t.part.core.row r).due = false
      ∧ t.part.core.account r = { a with lastRecovery := a.sl, sl := 0, cleans := min 65535 (a.cleans + 1) }
      ∧ (∀ q, q ≠ r → t.part.core.account q = c.account q ∧ (t.part.core.row q).kept = (c.row q).kept)
      ∧ { t.part.core.store with rows := c.store.rows } = c.store
      ∧ { t.part.core.kept with
          robots := c.kept.robots, rows := c.kept.rows, store := c.store, parkOut := c.parkOut } = c.kept

/-- R66 and R68: the silence timer of a robot expires. The robot becomes LOST where it stood, a LOST robot's recovery
starts over. -/
def Obligations.RobotSilenceExpiry : Prop :=
  ∀ (s : State) (i : Nat), s.part.core.phase = .run → (s.part.core.robot i).silence = some 0 →
    let c := s.part.core
    let old := c.robot i
    ((c.robot i).state = .lost → exec (.robotSilenceExpiry i) s = .next (s.told
      (c.modRobot i (fun x => { x with recoveryCount := 0, recoveryPlace := none, silence := none })) []))
    ∧ ((c.robot i).state ≠ .lost → ∃ t : State,
        let new := t.part.core.robot i
        exec (.robotSilenceExpiry i) s = .next t
        ∧ new.state = .lost ∧ new.row = old.row ∧ new.silence = none ∧ new.recoveryCount = 0 ∧ new.recoveryPlace = none
        ∧ (new.onPanelsAtLoss = true ↔
            old.row.isSome = true ∧ (old.state = .cleaning ∨ old.state = .returning ∨ old.state = .anchored
              ∨ old.state = .stranded))
        ∧ (∀ j, j ≠ i → (t.part.core.robot j).kept = (c.robot j).kept)
        ∧ { t.part.core.kept with robots := c.kept.robots, parkOut := c.parkOut } = c.kept)

/-- R70 and R55: the plant agent releases a LOST robot to UNSEEN with every field at its reset value, where no round that has
not ended holds it; a round ends with the loss of its robot (R113). -/
def Obligations.LostRelease : Prop :=
  ∀ (s : State) (i : Nat), s.part.core.phase = .run →
    let c := s.part.core
    (c.installed i = false → exec (.lostRelease .P i) s = .next ((s.told c []).answered .P .lostRelease (refuse .badRobot)))
    ∧ (c.installed i = true → (c.robot i).state ≠ .lost →
        exec (.lostRelease .P i) s = .next ((s.told c []).answered .P .lostRelease (refuse .state)))
    ∧ (c.installed i = true → (c.robot i).state = .lost → ∃ t : State,
        exec (.lostRelease .P i) s = .next t
        ∧ t.replyOn .P = some (refuse .done)
        ∧ (t.part.core.robot i).kept = ({} : Robot).kept
        ∧ ((∀ k, (c.slot k).state ≠ .idle → (c.slot k).state ≠ .ended → (c.slot k).robot ≠ some i) →
            t.part.core.robot i = {})
        ∧ (∀ j, j ≠ i → (t.part.core.robot j).kept = (c.robot j).kept)
        ∧ { t.part.core.kept with robots := c.kept.robots, parkOut := c.parkOut } = c.kept)

/-- R59: no step brings two robots to one station. -/
def Obligations.StepKeepsStationLaw : Prop :=
  ∀ s t : State, s.part.core.stationLaw → step s = .next t → t.part.core.stationLaw

/-! ### The transfer carriage (chapter 5) -/

/-- R75: a carriage report replaces the position in every state; a free carriage is SECURED in a zone that parks and IDLE
elsewhere, where a grant consideration follows. -/
def Obligations.CarriageReport : Prop :=
  ∀ (s : State) (position : Option Nat), s.part.core.phase = .run → s.part.core.cfg.linkF = true →
    let c := s.part.core
    let k := c.carriage
    let parking := ∃ r, position = some r ∧ c.rowClear r = false
    let standing := fun (x : CarriageState) => { k with position := position, state := x }
    let ends := fun (e : Ev) =>
      exec (.carriageReport .F position) s = .next ((s.ends e).answered .F .carriageReport (refuse .done))
    ((∃ r, position = some r ∧ c.cfg.rows ≤ r) →
      exec (.carriageReport .F position) s = .next ((s.told c []).answered .F .carriageReport (refuse .badRow)))
    ∧ ((∀ r, position = some r → r < c.cfg.rows) →
      ((k.state = .toPickup ∨ k.state = .loaded ∨ k.state = .fault) →
        ends ⟨{ c with carriage := standing k.state }, [], []⟩)
      ∧ (k.state = .idle → ¬parking → ends ⟨{ c with carriage := standing .idle }, [], []⟩)
      ∧ (k.state = .secured → parking → ends ⟨{ c with carriage := standing .secured }, [], []⟩)
      ∧ (k.state = .idle → parking →
          ends ⟨{ c with carriage := standing .secured }, [], [.note (standing .secured).notice]⟩)
      ∧ (k.state = .secured → ¬parking → ends
          (Ev.grantConsideration ⟨{ c with carriage := standing .idle }, [], [.note (standing .idle).notice]⟩)))

/-- R77: the first check of a transfer request that fails gives the reply, and the request changes nothing. -/
def Obligations.TransferRequestChecks : Prop :=
  ∀ (s : State) (l : Link) (i r : Nat), s.part.core.phase = .run → (l = .F ∨ l = .P) →
    let c := s.part.core
    let answered := fun (x : Result) =>
      exec (.transferRequest l i r) s = .next ((s.told c []).answered l .transferRequest (refuse x))
    let decoded := c.decode l .transfer r = none
    let parked := decoded ∧ c.installed i = true ∧ (c.robot i).state = .parked
    let unmoved := parked ∧ c.carriage.carries i = false
    let free := unmoved ∧ c.stationOccupant r = none ∧ (c.row r).inbound = none
    (∀ y, c.decode l .transfer r = some y → answered y)
    ∧ (decoded → c.installed i = false → answered .badRobot)
    ∧ (decoded → c.installed i = true → (c.robot i).state ≠ .parked → answered .busy)
    ∧ (parked → c.carriage.carries i = true → answered .busy)
    ∧ (unmoved → c.stationOccupant r ≠ none → answered .busy)
    ∧ (unmoved → c.stationOccupant r = none → (c.row r).inbound ≠ none → answered .busy)
    ∧ (free → 8 ≤ c.carriage.queue.length → answered .full)

/-- R76, R78, R79 and R81: a transfer request that passes every check, the throttle set or not. The entry is queued behind
every SERVICE entry and before every ROUND entry, the throttle follows the depth, and a grant consideration follows. It
stays queued while the carriage is busy or a zone of its two rows is not CLEAR; an IDLE carriage with nothing queued takes it
at once. That TRANSFER_GRANT stands before CARRIAGE_STATE is the model's own (log entry 31), and so is that what a grant
consideration hands to a slot is delivered after the whole of it (log entry 2). -/
def Obligations.TransferRequestTaken : Prop :=
  ∀ (s : State) (l : Link) (i r source : Nat), s.part.core.phase = .run → (l = .F ∨ l = .P) →
    let c := s.part.core
    let k := c.carriage
    c.decode l .transfer r = none → c.installed i = true → (c.robot i).state = .parked →
    (c.robot i).row = some source → k.carries i = false → c.stationOccupant r = none → (c.row r).inbound = none →
    k.queue.length < 8 →
    let t : Transfer := ⟨i, source, r, .service, l, none, k.nextArrival⟩
    let queue := k.queue.filter (fun x => x.cls == .service) ++ t :: k.queue.filter (fun x => x.cls == .round)
    let depth := k.queue.length + 1
    let throttle := if k.throttle then decide (c.cfg.tLower ≤ depth) else decide (c.cfg.tUpper ≤ depth)
    let queued := { k with queue := queue, nextArrival := k.nextArrival + 1, throttle := throttle }
    let notices := if throttle = k.throttle then [] else [queued.notice]
    let work := if k.throttle = true ∧ throttle = false then [Handoff.throttleCleared] else []
    let reserved := c.modRow r (fun x => { x with inbound := some i })
    let zoned := c.rowClear source = true ∧ c.rowClear r = true
    let answered := fun (t : State) =>
      exec (.transferRequest l i r) s = .next (t.answered l .transferRequest ⟨.accepted, .arrival k.nextArrival⟩)
    answered (s.ends (Ev.grantConsideration ⟨{ reserved with carriage := queued }, work, notices.map .note⟩))
    ∧ ((k.state ≠ .idle ∨ (k.queue = [] ∧ ¬zoned)) → work = [] →
        answered (s.told { reserved with carriage := queued } notices))
    ∧ (k.state = .idle → k.queue = [] → k.throttle = false → 1 < c.cfg.tUpper → zoned →
      let k' := { k with
        state := .toPickup, active := some t, timer := some c.cfg.transferTime, nextArrival := k.nextArrival + 1 }
      answered (s.ends ⟨{ reserved with carriage := k' }, [], [.note (.transferGrant t.body), .note k'.notice]⟩)
      ∧ ((∀ z, c.zoneClear z = true) →
          answered (s.told { reserved with carriage := k' } [.transferGrant t.body, k'.notice])))

/-- R80 and R81: a grant consideration passes over the entries that a zone holds and grants the first that no zone holds,
when no entry up to it is refused by its decode. -/
def Obligations.GrantConsiderationTakesFirstFree : Prop :=
  ∀ (e : Ev) (held rest : List Transfer) (t : Transfer),
    let c := e.core
    let free := fun (x : Transfer) => c.rowClear x.source && c.rowClear x.dest
    c.carriage.state = .idle → c.carriage.queue = held ++ t :: rest →
    (∀ x ∈ held ++ [t], c.decode x.link .transfer x.dest = none) →
    (∀ x ∈ held, free x = false) → free t = true → t ∉ rest →
    let e' := e.grantConsideration
    e'.core.carriage.state = .toPickup ∧ e'.core.carriage.active = some t
    ∧ e'.core.carriage.timer = some c.cfg.transferTime ∧ e'.core.carriage.queue = held ++ rest
    ∧ e'.core.carriage.position = c.carriage.position
    ∧ e'.out.contains (.note (.transferGrant t.body)) = true
    ∧ { e'.core with carriage := c.carriage } = c

/-- R82 to R87 and R89: the transfer timer expires with the carriage in FAULT and its passenger kept; and what the Carriage
Arbiter does with the new place of a robot, with a station that another robot has taken, with the loss of a robot and with a
zone that parks. That TRANSFER_END stands before CARRIAGE_STATE and after the throttle's, and that a carriage that the end of
a transfer leaves SECURED is told of by one CARRIAGE_STATE, is the model's own (log entry 31), and so is that the end handed
to the slot is delivered after the grant consideration (log entry 2). -/
def Obligations.TransferTimerExpiry : Prop :=
  let handed := fun (c : Core) (t : Transfer) (o : TransferOutcome) =>
    match t.cls, t.slot with
    | .round, some n => [Handoff.transferEnd n t.robot t.dest o]
    | .round, none => []
    | .service, _ => if (c.robot t.robot).round.isSome then [.serviceEnd t.robot] else []
  let ended := fun (e : Ev) (t : Transfer) (o : TransferOutcome) (k : Carriage) =>
    (⟨{ e.core.modRow t.dest (fun x => { x with inbound := none }) with carriage := k }, e.work ++ handed e.core t o,
      e.out ++ [.note (.transferEnd t.body o), .note k.notice]⟩ : Ev)
  let throttled := fun (c : Core) (depth : Nat) =>
    if c.carriage.throttle then decide (c.cfg.tLower ≤ depth) else decide (c.cfg.tUpper ≤ depth)
  (∀ (s : State) (t : Transfer), s.part.core.phase = .run →
    let c := s.part.core
    let k := c.carriage
    k.active = some t → k.timer = some 0 → (k.state = .toPickup ∨ k.state = .loaded) →
    let k' := { k with state := .fault, active := none, timer := none }
    let c' := { c.modRow t.dest (fun x => { x with inbound := none }) with carriage := k' }
    exec .transferTimerExpiry s = .next (s.ends (ended ⟨c, [], []⟩ t .timeout k'))
    ∧ (t.cls = .service → (c.robot t.robot).round = none → (∀ z, c.zoneClear z = true) →
        exec .transferTimerExpiry s = .next (s.told c' [.transferEnd t.body .timeout, k'.notice])))
  ∧ (∀ (e : Ev) (i r : Nat),
    let c := e.core
    let k := c.carriage
    let x := c.robot i
    let parking := fun (p : Option Nat) => ∃ q, p = some q ∧ c.rowClear q = false
    let freed := fun (e' : Ev) (t : Transfer) (o : TransferOutcome) (p : Option Nat) =>
      let k' := fun (s : CarriageState) =>
        { k with state := s, timer := none, active := none, passenger := none, position := p }
      (parking p → e' = ended e t o (k' .secured)) ∧ (¬parking p → e' = (ended e t o (k' .idle)).grantConsideration)
    let cancelled := fun (e' : Ev) (t : Transfer) =>
      (k.state = .toPickup → freed e' t .cancelled k.position)
      ∧ (k.state = .loaded → e' = ended e t .cancelled { k with state := .fault, active := none, timer := none })
    let removed := fun (e' : Ev) (t : Transfer) (o : TransferOutcome) =>
      let queue := k.queue.filter (fun y => decide (y ≠ t))
      let flag := throttled c queue.length
      let k' := { k with queue := queue, throttle := flag }
      e' = ⟨{ c.modRow t.dest (fun x => { x with inbound := none }) with carriage := k' },
        e.work ++ (if k.throttle && !flag then [.throttleCleared] else []) ++ handed c t o,
        e.out ++ (if flag = k.throttle then [] else [.note k'.notice]) ++ [.note (.transferEnd t.body o)]⟩
    let first := fun (t : Transfer) (p : Transfer → Prop) =>
      ∃ pre post, k.queue = pre ++ t :: post ∧ (∀ y ∈ pre, ¬p y) ∧ p t
    let placed := e.handle (.carriagePlace i)
    let taken := e.handle (.stationTaken r i)
    let lost := e.handle (.carriageLost i)
    let destined := fun (t : Transfer) => t.dest = r ∧ t.robot ≠ i
    let itsOwn := fun (t : Transfer) => t.robot = i
    (∀ t, k.active = some t → t.robot = i →
      (x.state = .onCarriage → k.state = .toPickup →
        let k' := { k with state := .loaded, passenger := some i }
        placed = ⟨{ c with carriage := k' }, e.work, e.out ++ [.note k'.notice]⟩)
      ∧ (x.state = .onCarriage → k.state ≠ .toPickup → placed = e)
      ∧ (∀ q, x.station = some q →
          freed placed t (if q = t.dest then .done else .misrouted) (if k.state = .loaded then some q else k.position))
      ∧ (∀ q, (x.state = .cleaning ∨ x.state = .returning ∨ x.state = .anchored ∨ x.state = .stranded) → x.row = some q →
          freed placed t .misrouted (if k.state = .loaded then some q else k.position)))
    ∧ ((∀ t, k.active = some t → ¬itsOwn t) →
      (∀ t, first t itsOwn → removed placed t (if x.station = some t.dest then .done else .misrouted)
        ∧ removed lost t .cancelled)
      ∧ ((∀ t ∈ k.queue, ¬itsOwn t) → placed = e ∧ lost = e))
    ∧ (∀ t, k.active = some t → itsOwn t → (∀ t ∈ k.queue, ¬itsOwn t) → cancelled lost t)
    ∧ ((∀ t, k.active = some t → ¬destined t) →
      (∀ t, first t destined → removed taken t .cancelled) ∧ ((∀ t ∈ k.queue, ¬destined t) → taken = e))
    ∧ (∀ t, k.active = some t → destined t → (∀ t ∈ k.queue, ¬destined t) → cancelled taken t))
  ∧ ∀ (e : Ev) (z : Nat), (e.core.zone z).state ≠ .clear →
    let c := e.core
    let k := c.carriage
    let parked := e.handle (.carriageZoneParked z)
    let touches := fun (t : Transfer) => c.zoneOf t.source == z || c.zoneOf t.dest == z
    let gone := k.queue.filter touches
    let queue := k.queue.filter (fun t => !touches t)
    let flag := if gone = [] then k.throttle else throttled c queue.length
    let k' := { k with queue := queue, throttle := flag }
    let swept : Ev := ⟨{ gone.foldl (fun c t => c.modRow t.dest (fun x => { x with inbound := none })) c with carriage := k' },
      e.work ++ gone.flatMap (fun t => handed c t .cancelled) ++ (if k.throttle && !flag then [.throttleCleared] else []),
      e.out ++ gone.map (fun t => .note (.transferEnd t.body .cancelled))
        ++ (if flag = k.throttle then [] else [.note k'.notice])⟩
    let standing := fun (s : CarriageState) => { k' with state := s }
    let freed := fun (s : CarriageState) =>
      { k' with state := s, timer := none, active := none, passenger := none }
    let there := ∃ r, k.position = some r ∧ c.zoneOf r = z
    let parking := ∃ r, k.position = some r ∧ c.rowClear r = false
    ((k.state = .loaded ∨ k.state = .fault ∨ k.state = .secured) → parked = swept)
    ∧ (k.state = .idle → there → parked
        = ⟨{ swept.core with carriage := standing .secured }, swept.work, swept.out ++ [.note (standing .secured).notice]⟩)
    ∧ (k.state = .idle → ¬there → parked = swept.grantConsideration)
    ∧ (∀ t, k.state = .toPickup → k.active = some t → touches t = false → parked = swept)
    ∧ (∀ t, k.state = .toPickup → k.active = some t → touches t = true →
      (parking → parked = ended swept t .cancelled (freed .secured))
      ∧ (¬parking → parked = (ended swept t .cancelled (freed .idle)).grantConsideration))

/-- R88: CARRIAGE CLEAR frees a carriage in FAULT, whose passenger goes, and is refused STATE in every other state. That R88 and
R90 together queue one CARRIAGE_STATE for a carriage that becomes SECURED is the model's own (log entry 31). -/
def Obligations.CarriageClear : Prop :=
  ∀ s : State, s.part.core.phase = .run →
    let c := s.part.core
    let k := c.carriage
    let parking := ∃ r, k.position = some r ∧ c.rowClear r = false
    let standing := fun (x : CarriageState) => { k with passenger := none, state := x }
    (k.state ≠ .fault →
      exec (.carriageClear .P) s = .next ((s.told c []).answered .P .carriageClear (refuse .state)))
    ∧ (k.state = .fault → parking → exec (.carriageClear .P) s = .next ((s.ends
        ⟨{ c with carriage := standing .secured }, [], [.note (standing .secured).notice]⟩).answered
          .P .carriageClear (refuse .done)))
    ∧ (k.state = .fault → ¬parking → exec (.carriageClear .P) s = .next ((s.ends (Ev.grantConsideration
        ⟨{ c with carriage := standing .idle }, [], [.note (standing .idle).notice]⟩)).answered
          .P .carriageClear (refuse .done)))

/-- R76: no step brings a ninth entry into the transfer queue or a robot into it twice. -/
def Obligations.StepKeepsTransferQueueLaw : Prop :=
  ∀ s t : State, s.part.core.carriage.queueLaw → step s = .next t → t.part.core.carriage.queueLaw

/-! ### Rounds (chapter 6) -/

/-- R96 and R97: the first check of a round start that fails gives the reply; a start that passes all sets the slot and
the robot's round field, and its first row choice or the evaluation of its trigger follows. That ROUND_STATE stands before
the notices of the row choice, where R97 lists it after the choice, is the model's own: the first place of the event's one
ROUND_STATE (log entry 15). -/
def Obligations.RoundStart : Prop :=
  ∀ (s : State) (l : Link) (k i : Nat) (spec : RoundSpec), s.part.core.phase = .run → (l = .F ∨ l = .P) →
    s.part.core.cfg.enabled l = true → k < 4 →
    let c := s.part.core
    let start := Instr.roundStart l k i (some spec)
    let refused := fun (x : Result) => exec start s = .next ((s.told c []).answered l .roundStart (refuse x))
    let inSpan := c.installed i = true ∧ ∀ first count dir, spec = .span first count dir → first < c.cfg.rows
    let startable := inSpan ∧ ((c.slot k).state = .idle ∨ (c.slot k).state = .ended)
    let free := startable ∧ (c.robot i).state = .parked ∧ (c.robot i).round = none ∧ c.carriage.carries i = false
    let taken := fun (spec' : RoundSpec) (state : SlotState) (remaining : Nat) (h : Handoff) =>
      exec start s = .next ((s.ends
        ⟨(c.modSlot k (fun _ => { state := state, spec := some spec', robot := some i, link := some l
                                  remaining := remaining })).modRobot i (fun x => { x with round := some k }),
          [h], [.roundState k]⟩).answered l .roundStart (refuse (if spec' = spec then .accepted else .clamped)))
    let within := fun (n : Nat) => max 1 (min 96 n)
    (c.installed i = false → refused .badRobot)
    ∧ (c.installed i = true → ¬inSpan → refused .badRow)
    ∧ (inSpan → (c.slot k).state ≠ .idle → (c.slot k).state ≠ .ended → refused .busy)
    ∧ (startable → (c.robot i).state ≠ .parked → refused .state)
    ∧ (startable → (c.robot i).state = .parked → (c.robot i).round ≠ none → refused .state)
    ∧ (startable → (c.robot i).state = .parked → (c.robot i).round = none → c.carriage.carries i = true →
        refused .state)
    ∧ (∀ first count, free → spec = .span first count .ascending →
        let n := min (within count) (c.cfg.rows - first)
        taken (.span first n .ascending) .running n (.chooseRow k))
    ∧ (∀ first count, free → spec = .span first count .descending →
        let n := min (within count) (first + 1)
        taken (.span first n .descending) .running n (.chooseRow k))
    ∧ (∀ mask limit, free → spec = .due mask limit .immediate →
        taken (.due mask (within limit) .immediate) .running 0 (.chooseRow k))
    ∧ (∀ mask limit n, free → spec = .due mask limit (.dueCount n) →
        taken (.due mask (within limit) (.dueCount (within n))) .armed 0 (.evalTrigger k))

/-- R109, R110 and R111: pause, resume and abort by the slot's state, and the refusal of a slot that the F-link did not
start. That the ROUND_STATE of a RESUME stands before the notices of the row choice, where R110 names it after the choice, is
the model's own: the first place of the event's one ROUND_STATE (log entry 15). -/
def Obligations.RoundPauseResumeAbort : Prop :=
  ∀ (s : State) (l : Link) (k : Nat), s.part.core.phase = .run → (l = .F ∨ l = .P) →
    s.part.core.cfg.enabled l = true → k < 4 →
    let c := s.part.core
    let x := c.slot k
    let foreign := l = .F ∧ x.link ≠ some .F
    let working := x.state = .running ∨ x.state = .suspended
    let at_ := fun (t : State) (q : ReqType) (r : Result) => t.answered l q (refuse r)
    let same := fun (q : ReqType) (r : Result) => at_ (s.told c []) q r
    let changed := fun (y : Slot) (q : ReqType) (r : Result) =>
      let c' := c.modSlot k (fun _ => y)
      at_ (s.told c' [c'.render (.roundState k)]) q r
    (foreign → exec (.roundPause l k) s = .next (same .roundPause .state)
      ∧ exec (.roundResume l k) s = .next (same .roundResume .state)
      ∧ exec (.roundAbort l k) s = .next (same .roundAbort .state))
    ∧ (¬foreign → working → x.pausePending = false →
        exec (.roundPause l k) s = .next (changed { x with pausePending := true } .roundPause .accepted)
        ∧ exec (.roundResume l k) s = .next (same .roundResume .done))
    ∧ (¬foreign → working → x.pausePending = true →
        exec (.roundPause l k) s = .next (same .roundPause .accepted)
        ∧ exec (.roundResume l k) s = .next (changed { x with pausePending := false } .roundResume .done))
    ∧ (¬foreign → x.state = .paused →
        exec (.roundPause l k) s = .next (same .roundPause .done)
        ∧ exec (.roundResume l k) s = .next ((s.ends
          ⟨c.modSlot k (fun y => { y with state := .running }), [.chooseRow k], [.roundState k]⟩).answered
            l .roundResume (refuse .done)))
    ∧ (¬foreign → (x.state = .idle ∨ x.state = .armed ∨ x.state = .ended) →
        exec (.roundPause l k) s = .next (same .roundPause .state)
        ∧ exec (.roundResume l k) s = .next (same .roundResume .state))
    ∧ (¬foreign → (x.state = .idle ∨ x.state = .ended) → exec (.roundAbort l k) s = .next (same .roundAbort .state))
    ∧ (¬foreign → x.state ≠ .idle → x.state ≠ .ended → ∃ e : Ev,
        exec (.roundAbort l k) s = .next ((s.ends e).answered l .roundAbort (refuse .done))
        ∧ e.core.slot k = { x with state := .ended, endReason := some .aborted, current := none }
        ∧ (∀ i, x.robot = some i → (e.core.robot i).round = none)
        ∧ (∀ r p, x.current = some (r, p) → (e.core.row r).claim ≠ some k)
        ∧ (∀ r q, (e.core.row r).pending = some q → q.origin ≠ .slot k)
        ∧ (∀ t ∈ c.carriage.queue, t.cls = .round → t.slot = some k →
            (∀ u ∈ c.carriage.queue, u.cls = .round → u.slot = some k → u = t) → t ∉ e.core.carriage.queue)
        ∧ e.core.carriage.active = c.carriage.active
        ∧ e.out.contains (.roundState k) = true
        ∧ (∀ i, x.robot = some i → i < 8 → (c.robot i).state = .cleaning →
            (∀ r, (c.robot i).row = some r → c.rowClear r = true) →
            (e.core.robot i).lastOrder = some (.ret, (c.robot i).row) ∧ (e.core.robot i).returnFlag = true)
        ∧ (∀ i, x.robot = some i → ((c.robot i).state ≠ .cleaning ∨ ∃ r, (c.robot i).row = some r ∧ c.rowClear r = false) →
            (e.core.robot i).lastOrder = (c.robot i).lastOrder)
        ∧ (∀ j, j ≠ k → e.core.slot j = c.slot j)
        ∧ { e.core with rows := c.rows, robots := c.robots, slots := c.slots, carriage := c.carriage } = c)

/-- R98 to R101: the trigger of an ARMED slot, the four tests before a row choice, and the candidates of either direction
that a choice passes over, claims, or claims and holds. -/
def Obligations.RowChoice : Prop :=
  ∀ (e : Ev) (k : Nat) (x : Slot) (i : Nat), k < 4 → e.core.slot k = x → x.robot = some i → (e.core.robot i).state ≠ .lost →
    let c := e.core
    let chosen := e.handle (.chooseRow k)
    let choosing := x.state = .running ∧ x.current = none
    let zoned := ∀ r, (c.robot i).row = some r → c.rowClear r = true
    let charged := ∀ b, (c.robot i).battery = some b → c.cfg.battMin ≤ b
    let ready := choosing ∧ x.pausePending = false ∧ charged ∧ zoned
    let becomes := fun (y : Slot) => chosen.core.slot k = y ∧ chosen.out.contains (.roundState k) = true
    let isSpan := ∃ first count dir, x.spec = some (.span first count dir)
    let other := fun (j : Option Nat) => ∃ n, j = some n ∧ n ≠ i
    let skips := fun (r : Nat) => c.decode (x.link.getD .F) .round r ≠ none ∨ (isSpan ∧ (c.row r).claim ≠ none)
      ∨ (c.rowClear r = true ∧ (other (c.stationOccupant r) ∨ other (c.row r).inbound ∨ ∃ n ∈ c.occupancy r, n ≠ i))
    let held := fun (r : Nat) => ¬skips r ∧ c.rowClear r = false
    let fits := fun (r : Nat) => ¬skips r ∧ c.rowClear r = true
    (¬choosing → chosen = e)
    ∧ (choosing → x.pausePending = true → becomes { x with state := .paused, pausePending := false })
    ∧ (choosing → x.pausePending = false → x.complete = true →
        becomes { x with state := .ended, endReason := some .complete } ∧ (chosen.core.robot i).round = none)
    ∧ (choosing → x.pausePending = false → x.complete = false → ¬charged →
        becomes { x with state := .ended, endReason := some .lowBattery } ∧ (chosen.core.robot i).round = none)
    ∧ (choosing → x.pausePending = false → x.complete = false → charged → ¬zoned →
        becomes { x with state := .suspended })
    ∧ (∀ first count dir n, x.spec = some (.span first count dir) → ready → n < x.remaining → n < 97 →
        let nth := fun (m : Nat) => match dir with
          | .ascending => first + x.nextIndex + m
          | .descending => first - (x.nextIndex + m)
        (∀ m, m < n → skips (nth m)) →
        let r := nth n
        let y := { x with
          nextIndex := x.nextIndex + n + 1, skipped := x.skipped + n, remaining := x.remaining - n
          current := some (r, .seeking) }
        (fits r → becomes y ∧ (r < 96 → (chosen.core.row r).claim = some k)
          ∧ chosen.work = e.work ++ [.seekingTest k])
        ∧ (held r → becomes { y with state := .suspended } ∧ (r < 96 → (chosen.core.row r).claim = some k)
          ∧ chosen.work = e.work))
    ∧ (∀ first count dir, x.spec = some (.span first count dir) → ready → 0 < x.remaining → x.remaining < 97 →
        (∀ m, m < x.remaining → skips (match dir with
          | .ascending => first + x.nextIndex + m
          | .descending => first - (x.nextIndex + m))) →
        becomes { x with
          state := .ended, endReason := some .complete, nextIndex := x.nextIndex + x.remaining
          skipped := x.skipped + x.remaining, remaining := 0 })
    ∧ (∀ mask limit trigger passed r rest, x.spec = some (.due mask limit trigger) → ready →
        c.dueList.filter (fun q => mask.getLsbD (c.zoneOf q) && (c.row q).claim.isNone && !x.skipSet.getLsbD q)
          = passed ++ r :: rest →
        (∀ q ∈ passed, skips q) → x.cleaned + x.skipped + passed.length < limit →
        let y := { x with
          skipped := x.skipped + passed.length, skipSet := passed.foldl (fun m q => m ||| (1#96 <<< q)) x.skipSet
          current := some (r, .seeking) }
        (fits r → becomes y ∧ (chosen.core.row r).claim = some k ∧ chosen.work = e.work ++ [.seekingTest k])
        ∧ (held r → becomes { y with state := .suspended } ∧ (chosen.core.row r).claim = some k ∧ chosen.work = e.work))
    ∧ (∀ mask limit trigger, x.spec = some (.due mask limit trigger) → ready → x.cleaned + x.skipped < limit →
        (∀ q ∈ c.dueList, mask.getLsbD (c.zoneOf q) = true → (c.row q).claim = none → x.skipSet.getLsbD q = true) →
        becomes { x with state := .ended, endReason := some .noRows } ∧ (chosen.core.robot i).round = none)
    ∧ (∀ mask limit n, x.state = .armed → x.spec = some (.due mask limit (.dueCount n)) →
        let count := ((List.range 96).filter (fun q =>
          decide (q < c.cfg.rows) && (c.row q).due && mask.getLsbD (c.zoneOf q) && (c.row q).claim.isNone)).length
        (n ≤ count → (e.handle (.evalTrigger k)).core.slot k = { x with state := .running }
          ∧ (e.handle (.evalTrigger k)).work = e.work ++ [.chooseRow k])
        ∧ (count < n → e.handle (.evalTrigger k) = e))

/-- R103 to R108, R114 and R115: what a slot does with its current row. In SEEKING it waits, submits its transfer or issues
its entry request, and a DONE end of its transfer has it enter WAITING_ENTRY, where it issues the request again at a permit
change of the row and at the end of the census; a grant sends the robot onto the row; a failure skips the row, or suspends
the slot while a zone parks; a zone that parks suspends the slot; a pass completion counts the row as cleaned. -/
def Obligations.RoundWorksRow : Prop :=
  ∀ (e : Ev) (k i r : Nat) (p : RowPhase), k < 4 → i < 8 → r < 96 →
    let c := e.core
    let x := c.slot k
    let y := c.robot i
    x.robot = some i → y.state ≠ .lost → y.round = some k → x.current = some (r, p) →
    let sought := e.handle (.seekingTest k)
    let clear := c.rowClear r = true ∧ ∀ q, y.row = some q → c.rowClear q = true
    let skipped := fun (e' : Ev) => (e'.core.row r).claim ≠ some k ∧ e'.work.contains (.chooseRow k) = true
      ∧ (e'.core.slot k).current = none ∧ (e'.core.slot k).skipped = x.skipped + 1
      ∧ (e'.core.slot k).state = x.state ∧ e'.out.contains (.roundState k) = true
    let suspended := fun (e' : Ev) => e'.core = c.modSlot k (fun x => { x with state := .suspended, current := some (r, .seeking) })
      ∧ e'.out.contains (.roundState k) = true
    let enterable := y.state = .parked ∧ y.row = some r ∧ (∃ l, x.link = some l ∧ c.decode l .entry r = none)
      ∧ c.installed i = true ∧ c.census = none ∧ (c.row r).permit = .freeMotion ∧ c.rowClear r = true
      ∧ c.occupancy r = [] ∧ (c.row r).pending = none ∧ (c.row r).claim = some k ∧ c.carriage.carries i = false
    let waits := fun (x' : Slot) (e' : Ev) => e'.core.slot k = x'
      ∧ (e'.core.row r).permit = .holdReq ∧ (e'.core.row r).pending = some ⟨i, .slot k, false⟩
      ∧ (e'.core.row r).approach = some c.cfg.approach
    (x.state = .running → p = .seeking → y.station ≠ some r → c.carriage.carries i = true → sought = e)
    ∧ (x.state = .running → p = .seeking → y.station ≠ some r → (y.state ≠ .parked ∨ c.carriage.throttle = true) →
        sought = e)
    ∧ (∀ source l, x.state = .running → p = .seeking → y.state = .parked → y.row = some source → source ≠ r →
        c.carriage.carries i = false → c.carriage.throttle = false → x.link = some l →
        c.decode l .transfer r = none → c.installed i = true → c.stationOccupant r = none → (c.row r).inbound = none →
        c.carriage.queue.length < 8 → c.carriage.state ≠ .idle →
        sought.core.slot k = x ∧ (sought.core.row r).inbound = some i
        ∧ sought.core.carriage.queue = c.carriage.queue ++ [⟨i, source, r, .round, l, some k, c.carriage.nextArrival⟩])
    ∧ (x.state = .running → p = .seeking → enterable → waits { x with current := some (r, .waitingEntry) } sought)
    ∧ (x.state = .running → p = .seeking → y.station = some r → e.handle (.transferEnd k i r .done) = sought)
    ∧ (x.state = .running → p = .waitingEntry → enterable → waits x (e.handle (.permitChanged r))
        ∧ ((∀ j, j ≠ k → (c.slot j).current = none) → waits x (e.handle .censusEnded)))
    ∧ (x.state = .running → p = .waitingEntry → (c.row r).claim = some k → (c.row r).pending.isSome = true →
        e.handle (.permitChanged r) = e)
    ∧ (x.state = .running → p = .waitingEntry →
        (e.handle (.entryGranted k r)).core.slot k = { x with current := some (r, .inPass) }
        ∧ ((e.handle (.entryGranted k r)).core.robot i).lastOrder = some (.goRow, some r)
        ∧ (e.handle (.entryGranted k r)).out.contains (.note (.robotOrder i .goRow (some r))) = true)
    ∧ (x.state = .running → (p = .waitingEntry ∨ p = .inPass) → clear → (c.row r).pending = none →
        skipped (e.handle (.entryFailed k r)))
    ∧ (x.state = .running → (p = .waitingEntry ∨ p = .inPass) → ¬clear → suspended (e.handle (.entryFailed k r)))
    ∧ (∀ o, o ≠ .done → x.state = .running → p = .seeking → clear → (c.row r).pending = none →
        skipped (e.handle (.transferEnd k i r o)))
    ∧ (∀ o, o ≠ .done → x.state = .running → p = .seeking → ¬clear → suspended (e.handle (.transferEnd k i r o)))
    ∧ (x.state = .running → p = .inPass → y.panelRow ≠ some r → clear → (c.row r).pending = none →
        skipped (e.handle (.roundPlace i)))
    ∧ ((x.state = .running ∨ x.state = .suspended) →
        let e' := e.handle (.roundPass i r)
        e'.core.slot k = { x with
          cleaned := x.cleaned + 1, current := none
          remaining := if x.isSpan then x.remaining - 1 else x.remaining }
        ∧ (e'.core.row r).claim ≠ some k
        ∧ (x.state = .running → e'.work = e.work ++ [.chooseRow k, .evalTriggers])
        ∧ (x.state = .suspended → e'.work = e.work ++ [.evalTriggers]))
    ∧ (∀ z,
        let e' := e.handle (.roundZoneParked z)
        let touched := (∃ q, y.row = some q ∧ c.zoneOf q = z) ∨ c.zoneOf r = z
        (x.state = .running → touched → e'.core.slot k = { x with state := .suspended, current := some (r, .seeking) }
          ∧ (e'.core.row r).claim = (c.row r).claim ∧ e'.out.contains (.roundState k) = true
          ∧ ∀ q t, (e'.core.row q).pending = some t → t.origin ≠ .slot k)
        ∧ (¬(x.state = .running ∧ touched) → e'.core.slot k = x))
    ∧ (x.state = .suspended → clear → (e.handle (.resumeTest k)).core.slot k = { x with state := .running }
        ∧ (e.handle (.resumeTest k)).work = e.work ++ [.seekingTest k])
    ∧ (x.state = .suspended → ¬clear → e.handle (.resumeTest k) = e)

/-- R95 and R97: no step breaks the count of a span round, or leaves a claim that is not a slot's hold on its current
row. -/
def Obligations.StepKeepsRoundLaw : Prop :=
  ∀ s t : State, s.part.core.roundLaw → step s = .next t → t.part.core.roundLaw

/-! ### Wind and hazards (chapter 7) -/

/-- R11, R119 to R123 and R128: an edge on an anemometer pin counts on an enabled channel alone; the seconds tick closes the
windows, forms the gusts, keeps the run and hold counts and moves the WIND cause with its latch and level, ages the tracker
reports and takes one second from every running timer. An expiry of a timer with a second left comes before the wind
evaluation of the tick: the seconds of the tick are counted with it, and not again with the evaluation. An expiry of a timer
that is stopped or has more time left, or whose other condition does not hold, changes nothing. That the seconds are counted
by the first expiry or wind evaluation of a tick, and that a timer expires at 0 and not before, is the model's own (log entry
6), and so is that the hold count is brought up to date before it is compared with WIND_HOLD (log entry 20). -/
def Obligations.WindMonitor : Prop :=
  ∀ s : State, s.part.core.phase = .run →
    let c := s.part.core
    let w := c.wind
    let pulsed := fun (x : WindChannel) => if x.enabled then { x with count := min 65535 (x.count + 1) } else x
    let channel := fun (enable : Bool) (cal : Nat) (x : WindChannel) =>
      let speed := min 999 (x.count * cal / 100)
      if enable = false then (⟨false, 0, 0, 0, 0, 0⟩ : WindChannel)
      else if x.enabled = false then ⟨true, 0, 0, 0, 0, 0⟩
      else ⟨true, 0, x.s2, x.s3, speed, (x.s2 + x.s3 + speed) / 3⟩
    let c0 := channel c.cfg.anem0 c.cfg.cal0 w.c0
    let c1 := channel c.cfg.anem1 c.cfg.cal1 w.c1
    let gust := max c0.gust c1.gust
    let run := fun (old threshold : Nat) => if threshold ≤ gust then min 2 (old + 1) else 0
    let cause := (c.hazard .wind).cause
    let hold := if gust < c.cfg.windRel then min 3600 (w.hold + 1) else 0
    let gone := cause.isSome && decide (c.cfg.windHold ≤ hold)
    let second := fun (t : Option Nat) => if c.ticked then t else t.map (fun n => n - 1)
    let aged := fun (a : Option Nat) => if c.ticked then a else a.map (fun n => min 65535 (n + 1))
    let save := if c.ticked then c.save else c.save.map (fun x => { x with timer := x.timer - 1 })
    let counted : Core := { c with
      ticked := true, census := second c.census, review := second c.review, save := save
      rows := c.rows.map (fun x => { x with
        age := aged x.age, silence := second x.silence, approach := second x.approach, guard := second x.guard
        boarding := second x.boarding, forcedTimer := second x.forcedTimer })
      robots := c.robots.map (fun x => { x with silence := second x.silence })
      carriage := { c.carriage with timer := second c.carriage.timer } }
    let expires := fun (i : Instr) (timer : Option Nat) (met : Prop) =>
      (met → timer = some 1 → c.ticked = false → exec i s = exec i (s.withPart { s.part with core := counted }))
      ∧ (¬met ∨ timer = none ∨ (∃ n, timer = some n ∧ (2 ≤ n ∨ (n = 1 ∧ c.ticked = true))) →
          exec i s = .next (s.told c []))
    let old := c.hazard .wind
    let base := if gone then { old with cause := none, rearm := false } else old
    let puts := fun (l : Sev) (new : HazardRec) =>
      (base.latched = false → (base.cause ≠ none ∨ base.rearm = false) → new = ⟨some l, true, some l, false, false⟩)
      ∧ (base.latched = false → base.cause = none → base.rearm = true → new = { base with cause := some l })
      ∧ (base.latched = true → (base.cause ≠ none ∨ rank base.level < rank (some l)) →
          new = { base with cause := some l, level := some l, ackPending := false })
      ∧ (base.latched = true → base.cause = none → rank (some l) ≤ rank base.level → new = { base with cause := some l })
    exec (.anemPulse .anem0) s = .next (s.withPart { s.part with core := { c with wind := { w with c0 := pulsed w.c0 } } })
    ∧ exec (.anemPulse .anem1) s
        = .next (s.withPart { s.part with core := { c with wind := { w with c1 := pulsed w.c1 } } })
    ∧ ∃ t : State,
      let v := t.part.core.wind
      exec .windEvaluation s = .next t
      ∧ v.c0 = c0 ∧ v.c1 = c1 ∧ v.gust = gust
      ∧ v.parkRun = run w.parkRun c.cfg.windPark ∧ v.critRun = run w.critRun c.cfg.windCrit
      ∧ v.hold = (if cause.isSome && !gone then hold else 0)
      ∧ (v.critRun = 2 → base.cause = some .critical → t.part.core.hazard .wind = base)
      ∧ (v.critRun = 2 → base.cause ≠ some .critical → puts .critical (t.part.core.hazard .wind))
      ∧ (v.critRun ≠ 2 → v.parkRun = 2 → base.cause = none → puts .park (t.part.core.hazard .wind))
      ∧ (v.critRun ≠ 2 → (v.parkRun ≠ 2 ∨ base.cause ≠ none) → t.part.core.hazard .wind = base)
      ∧ (∀ h, h ≠ .wind → t.part.core.hazard h = c.hazard h)
      ∧ (∀ r, (t.part.core.row r).kept = { (c.row r).kept with
          age := aged (c.row r).age, silence := second (c.row r).silence })
      ∧ (∀ i, (t.part.core.robot i).kept = { (c.robot i).kept with silence := second (c.robot i).silence })
      ∧ t.part.core.census = second c.census ∧ t.part.core.review = second c.review
      ∧ t.part.core.save = save ∧ t.part.core.ticked = false
      ∧ (t.part.core.hazard .wind = old → gone = false → t = s.told { counted with wind := v, ticked := false } [])
      ∧ { t.part.core.keptButZones with
          wind := w, hazards := c.hazards, rows := c.keptButZones.rows, robots := c.keptButZones.robots
          census := c.census, review := c.review, save := c.save, ticked := c.ticked, parkOut := c.parkOut }
        = c.keptButZones
      ∧ (∀ r,
          let x := c.row r
          expires (.trackerSilenceExpiry r) x.silence (r < c.cfg.rows)
          ∧ expires (.approachExpiry r) x.approach (x.permit = .holdReq ∨ x.permit = .guardIn)
          ∧ expires (.guardInExpiry r) x.guard (x.permit = .guardIn)
          ∧ expires (.guardOutExpiry r) x.guard (x.permit = .guardOut)
          ∧ expires (.boardingExpiry r) x.boarding (x.permit = .entry)
          ∧ expires (.forcedStowExpiry r) x.forcedTimer True)
      ∧ (∀ i, expires (.robotSilenceExpiry i) (c.robot i).silence True)
      ∧ expires .censusExpiry c.census True ∧ expires .hazardReviewBoundary c.review True
      ∧ expires .transferTimerExpiry c.carriage.timer
          (c.carriage.active.isSome = true ∧ (c.carriage.state = .toPickup ∨ c.carriage.state = .loaded))
      ∧ expires .saveTimeout (c.save.map (fun x => x.timer)) True

/-- R127: a sample of HAZ_N. The first after a full reset acts alone when it is low; later two disagreeing samples in a row
move the LINE cause. -/
def Obligations.LineFilterSamples : Prop :=
  ∀ (s : State) (high : Bool), (s.part.core.phase = .run ∨ s.part.core.phase = .configWait) →
    ∃ t : State,
      let c := s.part.core
      let x := c.line
      let old := c.hazard .line
      let new := t.part.core.hazard .line
      let level := c.cfg.lineLevel
      let disagrees := if high then old.cause ≠ none else old.cause = none
      let appears := new.cause = some level
        ∧ (old.cause = none → old.latched = false → old.rearm = false → new = ⟨some level, true, some level, false, false⟩)
      exec (.hazNSample high) s = .next t
      ∧ (x.strapDue = true → high = true → t.part.core.line = ⟨0, true, false⟩ ∧ new = old)
      ∧ (x.strapDue = true → high = false → t.part.core.line = ⟨0, false, false⟩ ∧ appears)
      ∧ (x.strapDue = false → ¬disagrees → t.part.core.line = ⟨0, high, false⟩ ∧ new = old)
      ∧ (x.strapDue = false → disagrees → x.disagree = 0 → t.part.core.line = ⟨1, high, false⟩ ∧ new = old)
      ∧ (x.strapDue = false → disagrees → 1 ≤ x.disagree → high = false →
          t.part.core.line = ⟨0, false, false⟩ ∧ appears)
      ∧ (x.strapDue = false → disagrees → 1 ≤ x.disagree → high = true →
          t.part.core.line = ⟨0, true, false⟩ ∧ new = { old with cause := none, rearm := false })
      ∧ (∀ h, h ≠ .line → t.part.core.hazard h = c.hazard h)
      ∧ { t.part.core.keptButZones with line := x, hazards := c.hazards, parkOut := c.parkOut } = c.keptButZones

/-- R125, R126, R128 and R131: the requests that move a cause or acknowledge a hazard. A cause that appears or rises latches
its hazard or raises the latched level, unless re-arm holds it off; one that falls or goes leaves the latch. -/
def Obligations.HazardRequests : Prop :=
  ∀ s : State, s.part.core.phase = .run →
    let c := s.part.core
    let moves := fun (i : Instr) (l : Link) (h : Hazard) (new : HazardRec) =>
      ∃ t : State, exec i s = .next t
        ∧ t.replyOn l = some ⟨.done, .hazardRecord new.cause new.latched new.level⟩
        ∧ t.part.core.hazard h = new
        ∧ (∀ g, g ≠ h → t.part.core.hazard g = c.hazard g)
        ∧ { t.part.core.keptButZones with hazards := c.hazards, parkOut := c.parkOut } = c.keptButZones
    let sets := fun (i : Instr) (l : Link) (h : Hazard) (level : Sev) =>
      let x := c.hazard h
      let rises := rank x.cause < rank (some level)
      (rises → x.latched = false → (x.cause ≠ none ∨ x.rearm = false) →
        moves i l h ⟨some level, true, some level, false, false⟩)
      ∧ (rises → x.latched = false → x.cause = none → x.rearm = true → moves i l h { x with cause := some level })
      ∧ (rises → x.latched = true → (x.cause ≠ none ∨ rank x.level < rank (some level)) →
          moves i l h { x with cause := some level, level := some level, ackPending := false })
      ∧ (rises → x.latched = true → x.cause = none → rank (some level) ≤ rank x.level →
          moves i l h { x with cause := some level })
      ∧ (¬rises → moves i l h { x with cause := some level })
    let clears := fun (i : Instr) (l : Link) (h : Hazard) =>
      let x := c.hazard h
      (x.cause ≠ none → moves i l h { x with cause := none, rearm := false })
      ∧ (x.cause = none → x.rearm = false → moves i l h x)
    (∀ level, sets (.parkOrder .P (some level)) .P .plant level)
    ∧ clears (.parkRelease .P) .P .plant
    ∧ (c.cfg.linkT = true → sets (.stowAll .T) .T .tracker .critical)
    ∧ (c.cfg.linkT = true → clears (.stowAllEnd .T) .T .tracker)
    ∧ ∀ h : Hazard,
      let x := c.hazard h
      let c' := c.setHazard h { x with ackPending := true }
      let taken : Reply := ⟨.done, .ackRecord true x.level x.cause true⟩
      (x.latched = false →
        exec (.hazardAck .P (some h)) s = .next ((s.told c []).answered .P .hazardAck (refuse .state)))
      ∧ (x.latched = true → x.ackPending = false →
          exec (.hazardAck .P (some h)) s = .next ((s.told c' [c'.render (.hazard h)]).answered .P .hazardAck taken))
      ∧ (x.latched = true → x.ackPending = true →
          exec (.hazardAck .P (some h)) s = .next ((s.told c []).answered .P .hazardAck taken))

/-- R129 and R130: a review boundary restarts the review timer and clears the latched hazards by their clearing modes; a
hazard that is cleared with its cause present is held off by re-arm. A boundary that comes before the wind evaluation of its
seconds tick, with a second of the period left, tests the records as they stand before that evaluation, and the evaluation
then takes no second from the new period. That the boundary then counts the seconds of the tick, and that it has an effect at
these two readings of the timer alone, is the model's own (log entry 6). -/
def Obligations.HazardReview : Prop :=
  ∀ s : State, (s.part.core.phase = .run ∨ s.part.core.phase = .configWait) →
    let c := s.part.core
    let before := c.review = some 1 ∧ c.ticked = false
    (c.review = some 0 ∨ before) →
    ∃ t : State,
      let clears := fun (h : Hazard) => (c.hazard h).latched = true
        ∧ match c.cfg.mode h with
          | .auto => (c.hazard h).cause = none
          | .ack => (c.hazard h).ackPending = true
          | .ackGone => (c.hazard h).ackPending = true ∧ (c.hazard h).cause = none
      let unchanged := fun (now : Core) =>
        { t.part.core.keptButZones with review := now.review, hazards := now.hazards, parkOut := now.parkOut }
          = now.keptButZones
      exec .hazardReviewBoundary s = .next t
      ∧ t.part.core.review = some c.cfg.review
      ∧ (∀ h, clears h → t.part.core.hazard h
          = { cause := (c.hazard h).cause, latched := false, level := none, ackPending := false
              rearm := (c.hazard h).cause.isSome })
      ∧ (∀ h, ¬clears h → t.part.core.hazard h = c.hazard h)
      ∧ (c.review = some 0 → unchanged c)
      ∧ (before → unchanged { c.second with ticked := true } ∧ t.part.core.ticked = true
          ∧ ∃ u : State, exec .windEvaluation t = .next u
            ∧ u.part.core.review = some c.cfg.review ∧ u.part.core.ticked = false)
      ∧ (before → ∃ u : State, exec .windEvaluation s = .next u
          ∧ u.part.core.review = some 0 ∧ u.part.core.ticked = false)

/-! ### Storm parking (chapter 8) -/

/-- R135, R136, R141, R143, R144 and R149: the evaluation of a zone gives it the highest level of the latched hazards mapped
to it. An onset, an escalation, a relief and a release set the state and make their hand-offs in the order of their rules;
the orders of an onset or escalation and the RESUME of a release follow the tables of R140 and R149. -/
def Obligations.ZoneEvaluation : Prop :=
  ∀ (e : Ev) (z : Nat) (b : Bool), z < 8 →
    let c := e.core
    let mapped := fun (h : Hazard) => (c.hazard h).latched = true ∧ (c.cfg.map h).getLsbD z = true
    let level : Option Sev := (c.zone z).level
    let e' := e.handle (.evalZone z b)
    let new := e'.core.zone z
    let makes := fun (hs : List Handoff) => e'.work = e.work ++ hs ∧ e'.out = e.out
    let belongs := fun (i r : Nat) => c.zoneOf r = z
      ∧ ((c.robot i).station = some r ∨ ((c.robot i).station = none ∧ (c.robot i).panelRow = some r))
    let ordered := fun (e' : Ev) (i : Nat) (o : Order) => (e'.core.robot i).lastOrder = some (o, (c.robot i).row)
      ∧ e'.out.contains (.note (.robotOrder i o (c.robot i).row)) = true
    (new.level = some .critical ↔ ∃ h, mapped h ∧ (c.hazard h).level = some .critical)
    ∧ (new.level = none ↔ ∀ h, mapped h → (c.hazard h).level = none)
    ∧ (level = none → new.level ≠ none → new.state = .securing
        ∧ makes [.permitZoneParked z, .carriageZoneParked z, .roundZoneParked z, .zoneOrders z, .zoneTest z, .announceZone z])
    ∧ (level = some .park → new.level = some .critical → new.state = (c.zone z).state
        ∧ makes [.zoneOrders z, .zoneTest z, .announceZone z])
    ∧ (level = some .critical → new.level = some .park → new.state = (c.zone z).state
        ∧ makes [.zoneTestState z, .announceZone z]
        ∧ ∀ r, r < c.cfg.rows → c.zoneOf r = z → (e'.core.row r).forcedTimer = none)
    ∧ (level ≠ none → new.level = none → new.state = .clear
        ∧ makes [.zoneResume z, .permitZoneCleared z, .carriageZoneCleared z, .roundZoneCleared z, .announceZone z]
        ∧ ∀ r, r < c.cfg.rows → c.zoneOf r = z → (e'.core.row r).forcedTimer = none)
    ∧ (level = new.level → new.state = (c.zone z).state ∧ makes (if b then [.announceZone z] else [])
        ∧ e'.core.rows = c.rows)
    ∧ (∀ y, y ≠ z → e'.core.zone y = c.zone y)
    ∧ { e'.core with zones := c.zones, rows := c.rows } = c
    ∧ (∀ i r, i < 8 → belongs i r →
        let onPanels := (c.robot i).station = none
        let o := e.handle (.zoneOrders z)
        (level ≠ none → (c.robot i).station = some r → ordered o i .holdAtStation)
        ∧ (level ≠ none → onPanels → (c.robot i).state ≠ .anchored → (c.row r).breach = true → ordered o i .anchor)
        ∧ (level = some .critical → onPanels → (c.robot i).state ≠ .anchored → ordered o i .anchor)
        ∧ (level = some .park → onPanels → (c.row r).breach = false → (c.robot i).state = .cleaning → ordered o i .ret)
        ∧ (level = some .park → onPanels → (c.row r).breach = false → (c.robot i).state ≠ .cleaning →
            o.core.robot i = c.robot i)
        ∧ (onPanels → (c.robot i).state = .anchored → o.core.robot i = c.robot i)
        ∧ (∀ x row, (c.robot i).lastOrder = some (x, row) → (x = .holdAtStation ∨ x = .ret ∨ x = .anchor) →
            (onPanels → (c.row r).breach = false) → ordered (e.handle (.zoneResume z)) i .resume)
        ∧ (∀ x row, (c.robot i).lastOrder = some (x, row) → (x = .goRow ∨ x = .resume) →
            (e.handle (.zoneResume z)).core.robot i = c.robot i)
        ∧ (onPanels → (c.row r).breach = true → (e.handle (.zoneResume z)).core.robot i = c.robot i))

/-- R139, R142, R145 and R147: the test of a zone that is not CLEAR. Rows whose robots are all anchored are granted the stow,
the forced-stow timers of a CRITICAL zone are started and stopped, a robot whose state or row the event has changed since it
began gets a standing order that is not its last order, and the zone is SECURED exactly under its three conditions. That at
CRITICAL a robot which the event has taken from ANCHORED to RETURNING, or out of LOST, is ordered ANCHOR again whatever its last
order is, is the model's reading (log entry 36). -/
def Obligations.ZoneTest : Prop :=
  ∀ (e : Ev) (z : Nat), z < 8 → (e.core.zone z).state ≠ .clear → e.core.cfg.rows ≤ 96 →
    let c := e.core
    let t := (e.handle (.zoneTest z)).core
    let inZone := fun (r : Nat) => r < c.cfg.rows ∧ c.zoneOf r = z
    let granted := fun (r : Nat) => inZone r ∧ (c.row r).permit = .entry ∧ c.occupancy r ≠ []
      ∧ ∀ i ∈ c.occupancy r, (c.robot i).state = .anchored
    let safe := (∀ r, inZone r → (t.row r).permit = .stow)
      ∧ (∀ r i, inZone r → i < 8 → (c.robot i).panelRow = some r → (c.robot i).state = .anchored)
      ∧ (∀ r, c.carriage.position = some r → c.zoneOf r = z → c.carriage.state = .secured)
    let needs := fun (r : Nat) => (t.row r).permit ≠ .stow ∧ ∃ i ∈ c.occupancy r, (c.robot i).state ≠ .anchored
    (safe → (t.zone z).state = .secured)
    ∧ (¬safe → (t.zone z).state = .securing)
    ∧ (∀ r, granted r → (t.row r).permit = .stow ∧ (t.row r).boarding = none ∧ (t.row r).pending = none)
    ∧ (∀ r, ¬granted r → { t.row r with forcedTimer := none } = { c.row r with forcedTimer := none })
    ∧ (∀ r, inZone r → (c.zone z).level = some .critical →
        (¬needs r → (t.row r).forcedTimer = none)
        ∧ (needs r → (c.row r).forcedTimer ≠ none → (t.row r).forcedTimer = (c.row r).forcedTimer)
        ∧ (needs r → (c.row r).forcedTimer = none → c.cfg.forced = 0 → (t.row r).forcedTimer = none)
        ∧ (needs r → (c.row r).forcedTimer = none → c.cfg.forced ≠ 0 → (t.row r).forcedTimer = some c.cfg.forced))
    ∧ (∀ r, ((c.zone z).level ≠ some .critical ∨ ¬inZone r) → (t.row r).forcedTimer = (c.row r).forcedTimer)
    ∧ (∀ y, y ≠ z → t.zone y = c.zone y)
    ∧ (t.zone z).level = (c.zone z).level
    ∧ { t with rows := c.rows, zones := c.zones } = c
    ∧ ∀ (c0 : Core) (i r : Nat), i < 8 →
        let u := e.zoneTest z c0
        let x := c.robot i
        let moved := (c0.robot i).state ≠ x.state ∨ (c0.robot i).row ≠ x.row
        let gets := fun (o : Order) =>
          let again := o = .anchor ∧ (c.zone z).level = some .critical
            ∧ (((c0.robot i).state = .anchored ∧ x.state = .returning)
              ∨ ((c0.robot i).state = .lost ∧ x.state ≠ .lost))
          (moved → (x.lastOrder ≠ some (o, x.row) ∨ again) → (u.core.robot i).lastOrder = some (o, x.row)
            ∧ u.out.contains (.note (.robotOrder i o x.row)) = true)
          ∧ (¬moved ∨ (x.lastOrder = some (o, x.row) ∧ ¬again) → u.core.robot i = x)
        (c.zoneOf r = z → x.station = some r → (c.zone z).level ≠ none → gets .holdAtStation)
        ∧ (c.zoneOf r = z → x.station = none → x.panelRow = some r →
          (x.state = .anchored → u.core.robot i = x)
          ∧ (x.state ≠ .anchored → (c.zone z).level ≠ none → (c.row r).breach = true → gets .anchor)
          ∧ (x.state ≠ .anchored → (c.zone z).level = some .critical → gets .anchor)
          ∧ ((c.zone z).level = some .park → (c.row r).breach = false → x.state = .cleaning → gets .ret)
          ∧ ((c.zone z).level = some .park → (c.row r).breach = false → x.state ≠ .cleaning → u.core.robot i = x))

/-- R148: the forced-stow timer of a row expires. The forced flag is set and FORCED_STOW queued, an ENTRY row goes to STOW
with its pending entry failed PARKING, and the zone test follows. -/
def Obligations.ForcedStowExpiry : Prop :=
  ∀ (s : State) (r : Nat), s.part.core.phase = .run → r < 96 →
    let c := s.part.core
    let x := c.row r
    let z := c.zoneOf r
    let unanchored := ((List.range 8).filter (fun i =>
      (c.robot i).panelRow == some r && (c.robot i).state != .anchored)).map (fun i => (i, (c.robot i).state))
    let ends := fun (f : RowRec → RowRec) (work : List Handoff) (out : List Announcement) =>
      exec (.forcedStowExpiry r) s = .next (s.ends
        ⟨c.modRow r f, work ++ [.zoneTest z], .note (.forcedStow r z unanchored) :: out⟩)
    x.forcedTimer = some 0 →
    (x.permit ≠ .entry → ends (fun x => { x with forcedTimer := none, forced := true }) [] [])
    ∧ (x.permit = .entry → x.pending = none → ends (fun x => RowRec.compareMode { x with
          permit := .stow, forcedTimer := none, forced := true, boarding := none, breach := false })
        (x.handChange r) [.permit r])
    ∧ (∀ p, x.permit = .entry → x.pending = some p → ends (fun x => RowRec.compareMode { x with
          permit := .stow, forcedTimer := none, forced := true, boarding := none, pending := none, breach := false })
        (p.origin.hand (.entryFailed · r) ++ x.handChange r)
        [.note (.entryFailed r p.robot p.origin .parking), .permit r])

/-- R135: every step keeps each zone at the level of the latched hazards mapped to it, and CLEAR exactly when that is none.
That no hazard is latched before the load has ended is part of the invariant (R124, R184). -/
def Obligations.StepKeepsZoneLaw : Prop :=
  ∀ s t : State, s.part.core.zoneLaw → s.part.core.quietStart → step s = .next t →
    t.part.core.zoneLaw ∧ t.part.core.quietStart

/-- R137, R179 and R181: every step keeps PARK_OUT asserted exactly when the part is not in RUN or a zone is not CLEAR (while
it has main power), each ATTN line high exactly while its queue holds a notice, at most sixteen notices in a queue with
no two state-type notices of one subject, and the counters within their widths. -/
def Obligations.StepKeepsPinsAndQueues : Prop :=
  (∀ s t : State, s.part.core.parkOutLaw → step s = .next t → t.part.core.parkOutLaw)
  ∧ ∀ s t : State, s.part.liu.lawful → step s = .next t → t.part.liu.lawful

/-! ### Yield accounting (chapter 9) -/

/-- R155, R156 and R159: the figures of a settled row, whose three parts add up to the deficit, and the movement of the
soiling index toward the loss of the interval. -/
def Obligations.IntervalFigures : Prop :=
  (∀ (h kTrack kAlt e : Nat) (m : Mode),
    let f := figures h kTrack kAlt e m
    let t := min 65535 ((h * kTrack + 128) / 256)
    let a := min (min 65535 ((h * kAlt + 128) / 256)) t
    f.t = t ∧ f.e = e ∧ f.surplus = e - t
    ∧ (m = .tracking → f.clean = 0 ∧ f.stow = 0 ∧ f.soil = t - e)
    ∧ (m = .held → f.clean = min (t - e) (t - a) ∧ f.stow = 0 ∧ f.soil = (t - e) - f.clean)
    ∧ (m = .stowed → f.clean = 0 ∧ f.stow = min (t - e) (t - a) ∧ f.soil = (t - e) - f.stow)
    ∧ f.soil + f.clean + f.stow = t - e
    ∧ e + f.soil + f.clean + f.stow = t + f.surplus)
  ∧ (∀ e t : Nat, lossOf e t = 1000 - min 1000 (e * 1000 / t))
  ∧ ∀ sl loss w : Nat, w ≤ 16 →
    (sl ≤ loss → slToward sl loss w = sl + max (min 1 (loss - sl)) ((loss - sl) * w / 16))
    ∧ (loss < sl → slToward sl loss w = sl - max 1 ((sl - loss) * w / 16))
    ∧ (w = 16 → slToward sl loss w = loss)
    ∧ min sl loss ≤ slToward sl loss w ∧ slToward sl loss w ≤ max sl loss

/-- R153, R154, R157 to R160, R163 and R166: an interval report settles its rows with the figures of R155 and R156. The
accounts take the figures or freeze, the soiling index and the due flag follow, every latch is retaken, the load counter
advances and may load the committed set, the interval number goes up by one. -/
def Obligations.IntervalReport : Prop :=
  ∀ (s : State) (h first : Nat) (energies : List Nat), s.part.core.phase = .run → s.part.core.cfg.rows ≤ 96 →
    1 ≤ energies.length → energies.length ≤ 96 →
    ∃ t : State,
      let c := s.part.core
      let t' := t.part.core
      let co := c.coActive
      let energy := fun (n : Nat) => energies.getD n 0
      let count := fun (p : Nat → Bool) => ((List.range energies.length).filter p).length
      let settled := fun (n : Nat) => decide (first + n < c.cfg.rows) && energy n != 65535
      let opportunity := c.loadCounter + 1 = co.loadEvery
      exec (.intervalReport .P h first energies.length energies) s = .next t
      ∧ t.replyOn .P = some ⟨if 4095 < h then .clamped else .done,
          .settlement (c.store.interval + 1) (count settled)
            (count (fun n => decide (first + n < c.cfg.rows) && energy n == 65535))
            (count (fun n => decide (c.cfg.rows ≤ first + n)))
            (count (fun n => settled n && (t'.account (first + n)).frozen))
            (decide opportunity && c.commit)⟩
      ∧ (∀ n, n < energies.length → settled n = true →
          let r := first + n
          let x := c.row r
          let a := c.account r
          let f := figures (min 4095 h) (co.track r) (co.alt r) (energy n) x.latch
          let sl := if x.latch = .tracking ∧ x.mixed = false ∧ co.eMin ≤ f.t
            then slToward a.sl (lossOf (energy n) f.t) co.w else a.sl
          let b := { a with
            eExp := a.eExp + f.t, eMeas := a.eMeas + energy n, surplus := a.surplus + f.surplus
            soil := a.soil + f.soil, clean := a.clean + f.clean, stow := a.stow + f.stow
            intervals := a.intervals + 1 }
          let fits := ∀ m ∈ [b.eExp, b.eMeas, b.surplus, b.soil, b.clean, b.stow, b.intervals], m ≤ 4294967295
          (a.frozen = false → fits → t'.account r = { b with sl := sl })
          ∧ (a.frozen = false → ¬fits → t'.account r = { a with frozen := true, sl := sl })
          ∧ (a.frozen = true → t'.account r = { a with sl := sl })
          ∧ (x.due = false → ((t'.row r).due = true ↔ co.dueOn ≤ sl))
          ∧ (x.due = true → ((t'.row r).due = false ↔ sl < co.dueOff)))
      ∧ (∀ r, (∀ n, n < energies.length → settled n = true → r ≠ first + n) →
          t'.account r = c.account r ∧ (t'.row r).due = (c.row r).due)
      ∧ (∀ r, r < c.cfg.rows → (t'.row r).latch = (c.row r).mode)
      ∧ ((∀ k, (c.slot k).state ≠ .armed) → ∀ r, r < c.cfg.rows → (t'.row r).mixed = false)
      ∧ (opportunity → t'.loadCounter = 0)
      ∧ (¬opportunity → c.loadCounter < 15 → t'.loadCounter = c.loadCounter + 1)
      ∧ (opportunity → c.commit = true → t'.coActive = c.coPending ∧ t'.commit = false)
      ∧ (¬(opportunity ∧ c.commit = true) → t'.coActive = co ∧ t'.commit = c.commit)
      ∧ t'.store.interval = c.store.interval + 1
      ∧ (∀ r, { (t'.row r).kept with due := (c.row r).due, latch := (c.row r).latch } = (c.row r).kept)
      ∧ { t'.kept with
          rows := c.kept.rows, store := { t'.store with markerValid := c.store.markerValid }, coActive := t'.coActive
          parkOut := c.parkOut }
        = { c.kept with
            store := t'.store, coActive := t'.coActive, commit := t'.commit, loadCounter := t'.loadCounter }

/-- R164 and R165: the coefficient requests write, commit, revoke and read the sets; none of them changes the active set. -/
def Obligations.CoefficientRequests : Prop :=
  ∀ s : State, s.part.core.phase = .run →
    let c := s.part.core
    let answers := fun (i : Instr) (q : ReqType) (r : Reply) (c' : Core) =>
      exec i s = .next ((s.withPart { s.part with core := c' }).answered .P q r)
    let write := fun (f : CoeffForm) (r : Result) (c' : Core) =>
      answers (.coeffWrite .P (some f)) .coeffWrite (refuse r) c'
    answers (.coeffCommit .P) .coeffCommit (refuse .done) { c with commit := true }
    ∧ answers (.coeffRevoke .P) .coeffRevoke (refuse .done) { c with commit := false }
    ∧ (∀ first values, 1 ≤ values.length → values.length ≤ 24 →
        let f := CoeffForm.rows first values.length values
        (c.cfg.rows ≤ first → write f .badRow c)
        ∧ (first < c.cfg.rows → c.commit = true → write f .state c)
        ∧ (first < c.cfg.rows → c.commit = false → ∃ p : CoeffSet,
            write f (if c.cfg.rows < first + values.length then .clamped else .done) { c with coPending := p }
            ∧ (∀ n v, values[n]? = some v → first + n < c.cfg.rows → first + n < 96 →
                p.track (first + n) = v.1 ∧ p.alt (first + n) = v.2)
            ∧ (∀ r, (r < first ∨ first + values.length ≤ r ∨ c.cfg.rows ≤ r) →
                p.track r = c.coPending.track r ∧ p.alt r = c.coPending.alt r)
            ∧ { p with kTrack := c.coPending.kTrack, kAlt := c.coPending.kAlt } = c.coPending))
    ∧ (∀ item value,
        let f := CoeffForm.scalar item value
        let p := c.coPending
        let within := fun (lo hi : Nat) => max lo (min hi value)
        let result := fun (v : Nat) => if v = value then Result.done else .clamped
        (c.commit = true → write f .state c)
        ∧ (c.commit = false →
          (item = .w → write f (result (within 1 16)) { c with coPending := { p with w := within 1 16 } })
          ∧ (item = .eMin → write f (result (within 1 65535)) { c with coPending := { p with eMin := within 1 65535 } })
          ∧ (item = .loadEvery →
              write f (result (within 1 16)) { c with coPending := { p with loadEvery := within 1 16 } })
          ∧ (item = .dueOn → p.dueOff < within 1 1000 →
              write f (result (within 1 1000)) { c with coPending := { p with dueOn := within 1 1000 } })
          ∧ (item = .dueOn → within 1 1000 ≤ p.dueOff → write f .invalid c)
          ∧ (item = .dueOff → within 0 1000 < p.dueOn →
              write f (result (within 0 1000)) { c with coPending := { p with dueOff := within 0 1000 } })
          ∧ (item = .dueOff → p.dueOn ≤ within 0 1000 → write f .invalid c)))
    ∧ (∀ name first count, 1 ≤ count → count ≤ 24 →
        let read := Instr.coeffRead .P (some name) first count
        let n := min count (c.cfg.rows - first)
        let set := if name = .active then c.coActive else c.coPending
        (c.cfg.rows ≤ first → answers read .coeffRead (refuse .badRow) c)
        ∧ (first < c.cfg.rows → ∃ values : List (Nat × Nat),
            answers read .coeffRead ⟨if n = count then .done else .clamped,
              .coeffs c.commit c.loadCounter set.w set.eMin set.dueOn set.dueOff set.loadEvery values⟩ c
            ∧ values.length = n ∧ ∀ m, m < n → values[m]? = some (set.track (first + m), set.alt (first + m))))

/-- R161, R170 and R171: the due list holds the present rows whose due flag is set, by soiling index and row; ACCOUNT READ
returns a row's account with its place in the list, ACCOUNT CLEAR sets the accounts it names to 0 and clears their due
flags. -/
def Obligations.AccountsAndDueList : Prop :=
  ∀ s : State, s.part.core.phase = .run →
    let c := s.part.core
    let named := fun (row : Option Nat) (r : Nat) => r < c.cfg.rows ∧ (row = none ∨ row = some r)
    (∀ r, r ∈ c.dueList ↔ r < c.cfg.rows ∧ r < 96 ∧ (c.row r).due = true)
    ∧ c.dueList.Pairwise (fun a b =>
        (c.account b).sl < (c.account a).sl ∨ ((c.account b).sl = (c.account a).sl ∧ a < b))
    ∧ (∀ r, c.cfg.rows ≤ r →
        exec (.accountRead .P r) s = .next (s.answered .P .accountRead (refuse .badRow))
        ∧ exec (.accountClear .P (some r)) s = .next ((s.told c []).answered .P .accountClear (refuse .badRow)))
    ∧ (∀ r, r < c.cfg.rows → ∃ place : Option Nat,
        exec (.accountRead .P r) s = .next (s.answered .P .accountRead ⟨.done,
          .account (c.account r) (c.row r).latch (c.row r).mixed (c.row r).due place (c.coActive.track r)
            (c.coActive.alt r) c.store.interval⟩)
        ∧ (∀ n, place = some n ↔ 1 ≤ n ∧ c.dueList[n - 1]? = some r))
    ∧ (∀ row : Option Nat, (∀ r, row = some r → r < c.cfg.rows) → ∃ t : State,
        let t' := t.part.core
        exec (.accountClear .P row) s = .next t
        ∧ t.replyOn .P = some (refuse .done)
        ∧ (∀ r, named row r → t'.account r = {} ∧ (t'.row r).due = false)
        ∧ (∀ r, ¬named row r → t'.account r = c.account r ∧ (t'.row r).due = (c.row r).due)
        ∧ (∀ r, { (t'.row r).kept with due := (c.row r).due } = (c.row r).kept)
        ∧ { t'.store with rows := c.store.rows } = c.store
        ∧ { t'.kept with rows := c.kept.rows, store := c.store, parkOut := c.parkOut } = c.kept)

/-- R157, R159 and R166: every step keeps the accounts in balance and the soiling indices within 1000, together with the
filter weights within 16; and from RUN to RUN the active set changes only to a committed pending set at a load
opportunity. -/
def Obligations.StepKeepsAccountLaw : Prop :=
  (∀ s t : State, s.part.core.store.lawful → s.part.core.coActive.w ≤ 16 → s.part.core.coPending.w ≤ 16 →
    step s = .next t →
    t.part.core.store.lawful ∧ t.part.core.coActive.w ≤ 16 ∧ t.part.core.coPending.w ≤ 16)
  ∧ ∀ s t : State, s.part.core.phase = .run → t.part.core.phase = .run → step s = .next t →
    t.part.core.coActive = s.part.core.coActive
    ∨ (s.part.core.commit = true ∧ s.part.core.loadCounter + 1 = s.part.core.coActive.loadEvery
        ∧ t.part.core.coActive = s.part.core.coPending ∧ t.part.core.commit = false)

/-! ### Queries -/

/-- R16, R17, R73, R93, R118, R134, R152 and R177: what the queries answer on a link whose requests are enabled, with the
state unchanged; STATUS is answered on every link and sets the three counters of its link to 0. That its ROWS is the
value in force is the model's own (log entry 19), and so is what ROUND QUERY returns of the counts of a slot in IDLE (log
entry 28) and, of a slot that is not DUE, as the skip set: 12 zero bytes, where R118 gives the map for a DUE slot only (log
entry 40). -/
def Obligations.Queries : Prop :=
  ∀ (s : State) (l : Link), s.part.core.phase = .run →
    let c := s.part.core
    let answers := fun (i : Instr) (q : ReqType) (r : Reply) => exec i s = .next (s.answered l q r)
    let rowsAsked := fun (limit first count : Nat) => min (min (max count 1) limit) (c.cfg.rows - first)
    let result := fun (n count : Nat) => if n = count then Result.done else .clamped
    let inWindow := fun (r : Nat) =>
      match (c.row r).angle with
      | none => false
      | some a => decide ((a - c.cfg.crossing).natAbs ≤ c.cfg.crossTol)
    let inZone := fun (z r : Nat) => decide (r < c.cfg.rows) && c.zoneOf r == z
    let zoneRows := fun (z : Nat) => (List.range 96).filter (inZone z)
    exec (.status l) s = .next ((s.withPart (s.part.modPort l (fun p =>
        { p with drops := 0, frameErrors := 0, overruns := 0 }))).answered l .status ⟨.done,
      .status .run c.save.isSome c.runEntries c.cfg.rows ⟨c.cfg.linkT, c.cfg.linkF, true⟩ (s.part.liu.port l).queue.length
        (s.part.liu.port l).drops (s.part.liu.port l).frameErrors (s.part.liu.port l).overruns⟩)
    ∧ (c.cfg.enabled l = true →
      (∀ first count form, c.cfg.rows ≤ first → answers (.permitQuery l first count (some form)) .permitQuery (refuse .badRow))
      ∧ (∀ first count, first < c.cfg.rows → ∃ entries : List RowSummary,
          let n := rowsAsked 96 first count
          answers (.permitQuery l first count (some .summary)) .permitQuery ⟨result n count, .summaries first n entries⟩
          ∧ entries.length = n
          ∧ ∀ m, m < n → let r := first + m
            entries[m]? = some ⟨(c.row r).permit, (c.row r).tracker, (c.row r).forced, (c.row r).breach, (c.row r).silent,
              !(c.occupancy r).isEmpty, (c.row r).pending.isSome, inWindow r⟩)
      ∧ (∀ first count, first < c.cfg.rows → ∃ entries : List RowDetail,
          let n := rowsAsked 16 first count
          answers (.permitQuery l first count (some .detail)) .permitQuery ⟨result n count, .details first n entries⟩
          ∧ entries.length = n
          ∧ ∀ m, m < n → let r := first + m
            let x := c.row r
            entries[m]? = some ⟨r, c.zoneOf r, x.permit, x.forced, x.breach, x.silent, x.tracker, x.angle, x.age,
              x.pending.map (·.robot), c.occupant r, c.stationOccupant r, x.inbound, x.claim⟩)
      ∧ (∀ first count, 7 < first → answers (.robotQuery l first count) .robotQuery (refuse .badRobot))
      ∧ (∀ first count, first ≤ 7 → ∃ entries : List (Bool × Robot),
          let n := min (max count 1) (8 - first)
          answers (.robotQuery l first count) .robotQuery ⟨result n count, .robots entries⟩
          ∧ entries.length = n
          ∧ ∀ m, m < n → entries[m]? = some (c.cfg.installed.getLsbD (first + m), c.robot (first + m)))
      ∧ answers (.carriageQuery l) .carriageQuery ⟨.done, .carriage c.carriage c.carriage.queue.length⟩
      ∧ (∃ maps : Nat → List Byte,
          let entry := fun (k : Nat) =>
            let x := c.slot k
            let next := match x.spec with
              | some (.span _ _ _) => some x.nextIndex
              | some (.due _ _ _) | none => none
            let remaining := match x.spec with
              | some (.due _ _ _) => none
              | some (.span _ _ _) | none => some x.remaining
            (⟨x.state, x.endReason, x.spec, x.robot, x.link, next, maps k, x.current, x.cleaned, x.skipped, remaining,
              x.pausePending⟩ : SlotEntry)
          answers (.roundQuery l) .roundQuery ⟨.done, .rounds [entry 0, entry 1, entry 2, entry 3]⟩
          ∧ ∀ k, k < 4 → (maps k).length = 12
            ∧ ∀ r, r < 96 → ((maps k).getD (r / 8) 0).getLsbD (r % 8) = (c.slot k).skipSet.getLsbD r)
      ∧ answers (.hazardQuery l) .hazardQuery ⟨.done,
          .hazards [⟨c.hazard .wind, c.cfg.windMode, c.cfg.windMap⟩, ⟨c.hazard .plant, c.cfg.plantMode, c.cfg.plantMap⟩,
              ⟨c.hazard .tracker, c.cfg.trackerMode, c.cfg.trackerMap⟩, ⟨c.hazard .line, c.cfg.lineMode, c.cfg.lineMap⟩]
            c.review c.wind c.line.lastHigh c.line.disagree⟩
      ∧ ∃ (zones : List ZoneEntry) (timers : List (Nat × Nat × Nat)),
          answers (.zoneQuery l) .zoneQuery ⟨.done, .zones zones timers c.parkOut⟩
          ∧ zones.length = 8
          ∧ (∀ z, z < 8 → zones[z]? = some ⟨c.zone z, c.zoneHazards z, (zoneRows z).length,
              ((zoneRows z).filter (fun r => (c.row r).permit != .stow)).length,
              ((zoneRows z).flatMap (fun r => (c.occupancy r).filter (fun i => (c.robot i).state != .anchored))).length,
              c.carriage.state == .secured || c.carriage.position.all (fun r => c.zoneOf r != z)⟩)
          ∧ ∀ r z n, (r, z, n) ∈ timers ↔
              r < c.cfg.rows ∧ r < 96 ∧ z = c.zoneOf r ∧ (c.row r).forcedTimer = some n)

/-! ### Links and notices (chapter 10) -/

/-- R172, R178, R179 and R180: a fetch takes the oldest entry of the most urgent priority; a notice handed to a queue is
masked, coalesced, placed last, or admitted to a full queue by evicting the newest entry of the least urgent level; and the
bytes of a fetched notice: the kind code, the count left and a body with one, two or four bytes for each field of its
table. That the count stands between the kind code and the body is the model's reading (log entry 28). -/
def Obligations.NoticeQueues : Prop :=
  (∀ (s : State) (l : Link), (s.part.core.phase = .run ∨ s.part.core.phase = .configWait) →
    let queue := (s.part.liu.port l).queue
    (queue = [] → exec (.fetchNotice l) s
      = .next ((s.told s.part.core []).answered l .fetchNotice ⟨.done, .notice none 0⟩))
    ∧ (queue ≠ [] → ∃ (pre : List Queued) (x : Queued) (post : List Queued),
      queue = pre ++ x :: post
      ∧ (∀ y ∈ pre, x.priority < y.priority) ∧ (∀ y ∈ post, x.priority ≤ y.priority)
      ∧ exec (.fetchNotice l) s = .next ((s.withPart (Part.drivePins
          (s.part.modPort l (fun p => { p with queue := pre ++ post })))).answered l .fetchNotice
            ⟨.done, .notice (some x.notice) (pre ++ post).length⟩)))
  ∧ (∀ (p : Port) (k : NoticeClass) (n : Notice),
    let new : Queued := ⟨k.priority, n⟩
    let distinct := n.subject = none ∨ ∀ y ∈ p.queue, y.notice.subject ≠ n.subject
    (k.masked = true → p.enqueue k n = p)
    ∧ (∀ pre x post, k.masked = false → n.subject ≠ none → p.queue = pre ++ x :: post → x.notice.subject = n.subject →
        (∀ y ∈ pre ++ post, y.notice.subject ≠ n.subject) → p.enqueue k n = { p with queue := pre ++ new :: post })
    ∧ (k.masked = false → distinct → p.queue.length < 16 → p.enqueue k n = { p with queue := p.queue ++ [new] })
    ∧ (∀ pre x post, k.masked = false → distinct → 16 ≤ p.queue.length → p.queue = pre ++ x :: post →
        (∀ y ∈ pre, y.priority ≤ x.priority) → (∀ y ∈ post, y.priority < x.priority) →
        (k.priority < x.priority →
          p.enqueue k n = { p with queue := pre ++ post ++ [new], drops := min 255 (p.drops + 1) })
        ∧ (x.priority ≤ k.priority → p.enqueue k n = { p with drops := min 255 (p.drops + 1) })))
  ∧ Reply.body ⟨.done, .notice none 0⟩ = [0, 0, 0]
  ∧ (∀ (n : Notice) (left : Nat),
    Reply.body ⟨.done, .notice (some n) left⟩ = 0 :: NoticeKind.code n.kind :: BitVec.ofNat 8 left :: n.body
    ∧ n.body.length = match n with
      | .accountsLost => 0
      | .trackerSilent .. | .configState .. => 2
      | .permit .. | .entryGrant .. | .intrusion .. | .robotOrder .. => 3
      | .entryFailed .. | .zoneState .. | .dueChange .. => 4
      | .holdBreach .. | .accountFrozen .. => 5
      | .robotState .. | .carriageState .. => 6
      | .hazard .. | .transferGrant .. | .settled .. => 7
      | .transferEnd .. => 8
      | .roundState .. => 12
      | .forcedStow _ _ robots => 3 + 2 * robots.length)
  ∧ (∀ (row : Nat) (angle : Option Int) (state : TrackerState) (onset : Bool),
    (∀ a, angle = some a → -32768 < a ∧ a < 32768) →
    ∃ lo hi x y : Byte, Notice.body (.holdBreach row angle state onset) = [BitVec.ofNat 8 row, lo, hi, x, y]
      ∧ signedOf lo hi = angle.getD (-32768))
  ∧ ∀ (row : Nat) (interval : BitVec 32),
    ∃ b0 b1 b2 b3 : Byte, Notice.body (.accountFrozen row interval) = [BitVec.ofNat 8 row, b0, b1, b2, b3]
      ∧ b3 ++ b2 ++ b1 ++ b0 = interval

/-- R173: what a port's receiver does with a byte in each of its states, with a gap and with a missing stop bit; a full reset
puts it in HUNT. -/
def Obligations.ReceiverStates : Prop :=
  ∀ (s : State) (l : Link) (b : Byte),
    (s.part.core.phase = .run ∨ s.part.core.phase = .configWait ∨ s.part.core.phase = .loading) →
    let p := s.part.liu.port l
    let goes := fun (i : Instr) (r : Receiver) =>
      exec i s = .next (s.withPart (s.part.modPort l (fun p => { p with receiver := r })))
    let errs := fun (i : Instr) => exec i s = .next (s.withPart (s.part.modPort l (fun p =>
      { p with receiver := .hunt, frameErrors := min 65535 (p.frameErrors + 1) })))
    let byte := Instr.byteReceived l b
    (p.receiver = .hunt → b = 0xA5 → goes byte .length)
    ∧ (p.receiver = .hunt → b ≠ 0xA5 → exec byte s = .next s)
    ∧ (p.receiver = .length → 2 ≤ b.toNat → b.toNat ≤ 250 → goes byte (.data b []))
    ∧ (p.receiver = .length → (b.toNat < 2 ∨ 250 < b.toNat) → errs byte)
    ∧ (∀ n got, p.receiver = .data n got → got.length + 1 < n.toNat → goes byte (.data n (got ++ [b])))
    ∧ (∀ n got, p.receiver = .data n got → n.toNat ≤ got.length + 1 → goes byte (.crc n (got ++ [b]) none))
    ∧ (∀ n got, p.receiver = .crc n got none → goes byte (.crc n got (some b)))
    ∧ (∀ n got lo, p.receiver = .crc n got (some lo) → crc16 (n :: got) ≠ b ++ lo → errs byte)
    ∧ (∀ n type tag body lo, p.receiver = .crc n (type :: tag :: body) (some lo) →
        crc16 (n :: type :: tag :: body) = b ++ lo → exec byte s = exec (.frameComplete l type tag body) s)
    ∧ (p.receiver ≠ .hunt → errs (.interbyteGap l) ∧ errs (.stopBitMissing l))
    ∧ (p.receiver = .hunt → exec (.interbyteGap l) s = .next s ∧ exec (.stopBitMissing l) s = .next s)
    ∧ ∀ writing, ∃ t : State, exec (.fullReset writing) s = .next t ∧ (t.part.liu.port l).receiver = .hunt

/-- R172 and R173: the bytes of a frame, received one after another from HUNT, do what the complete frame does; with another
CRC at their end they are a frame error. A body of more than 248 bytes has no frame. The two-byte numbers of INTERVAL REPORT
and the arrival number of a TRANSFER REQUEST's reply stand least significant byte first, and 0xFF is the absent row of CARRIAGE
REPORT. That these bodies hold their fields in the order of their rules is the model's reading (log entries 1 and 28). That
FRAME_COMPLETE and FRAME_CRC_ERROR are commands of their own, and that the second counts a frame error in every state of the
receiver, is the model's own (log entry 29). -/
def Obligations.FrameBytesAreTheFrame : Prop :=
  (∀ (s : State) (l : Link) (type tag : Byte) (body : List Byte) (rest : List Instr),
    (s.part.core.phase = .run ∨ s.part.core.phase = .configWait ∨ s.part.core.phase = .loading) →
    exec (.frameCrcError l) s = .next (s.withPart (s.part.modPort l (fun p =>
      { p with receiver := .hunt, frameErrors := min 65535 (p.frameErrors + 1) })))
    ∧ ((s.part.liu.port l).receiver = .hunt → body.length ≤ 248 →
      let bytes := frameBytes type tag body
      (s.pending = bytes.map (.byteReceived l) ++ rest →
        s.after bytes.length = ({ s with pending := .frameComplete l type tag body :: rest } : State).after 1)
      ∧ ∀ lo hi : Byte, let wrong := bytes.take (body.length + 4) ++ [lo, hi]
        wrong ≠ bytes → s.pending = wrong.map (.byteReceived l) ++ rest →
        s.after wrong.length = ({ s with pending := .frameCrcError l :: rest } : State).after 1))
  ∧ (∀ (type tag : Byte) (body : List Byte), 248 < body.length → frameBytes type tag body = [])
  ∧ parse .carriageReport [0xFF] = some (.carriageReport none)
  ∧ (∀ b : Byte, b ≠ 0xFF → parse .carriageReport [b] = some (.carriageReport (some b.toNat)))
  ∧ (∀ ilo ihi first elo ehi : Byte, parse .intervalReport [ilo, ihi, first, 1, elo, ehi]
      = some (.intervalReport (256 * ihi.toNat + ilo.toNat) first.toNat 1 [256 * ehi.toNat + elo.toNat]))
  ∧ ∀ n : BitVec 16, ∃ lo hi : Byte, Reply.body ⟨.accepted, .arrival n⟩ = [0x01, lo, hi]
      ∧ n.toNat = 256 * hi.toNat + lo.toNat

/-- R174: the two places of a port. A frame that finds the port empty is taken and acts as its request does, with the
request's TAG in the reply; a second one waits; a third is an overrun. The end of a reply frees the place, and the waiting
frame is taken. The commands that give a request without its frame are the model's own (log entry 3), and so is that
FRAME_COMPLETE acts in every state of the receiver and leaves it in HUNT (log entry 29), that a frame of more than 248 body
bytes, which no line can carry, changes nothing, and that REPLY_SENT changes nothing on a port without a taken frame (log entry
8: a command whose event cannot occur has no effect). -/
def Obligations.FramePlaces : Prop :=
  ∀ (s : State) (l : Link) (type tag : Byte) (body : List Byte),
    (s.part.core.phase = .run ∨ s.part.core.phase = .configWait) →
    let p := s.part.liu.port l
    let frame := Instr.frameComplete l type tag body
    let goes := fun (i : Instr) (f : Port → Port) => exec i s = .next (s.withPart (s.part.modPort l f))
    (248 < body.length → exec frame s = .next s)
    ∧ (body.length ≤ 248 →
      (p.inService.isSome = true → p.waiting = none →
        goes frame (fun p => { p with receiver := .hunt, waiting := some ⟨.raw type tag body, false⟩ }))
      ∧ (p.inService.isSome = true → p.waiting.isSome = true →
        goes frame (fun p => { p with receiver := .hunt, overruns := min 65535 (p.overruns + 1) }))
      ∧ (p.inService = none → typeOf type = none →
        goes frame (fun p => { p with
          receiver := .hunt, inService := some ⟨.raw type tag body, true⟩
          reply := some ⟨if 0x80 ≤ type.toNat then 0xFF else type + 0x80, some tag, refuse .unknownType⟩ }))
      ∧ (∀ q, p.inService = none → typeOf type = some q → parse q body = none → s.part.core.phase = .run →
        validOn q l = true →
        goes frame (fun p => { p with
          receiver := .hunt, inService := some ⟨.raw type tag body, true⟩
          reply := some ⟨type + 0x80, some tag, refuse .malformed⟩ }))
      ∧ (∀ q req i u, p.inService = none → typeOf type = some q → parse q body = some req →
        requestOf i = some (l, req) → exec i s = .next u →
        exec frame s = .next (u.withPart (u.part.modPort l (fun p => { p with
          receiver := .hunt, inService := some ⟨.raw type tag body, true⟩
          reply := p.reply.map (fun r => { r with tag := some tag }) }))))
      ∧ (∀ taken, p.inService.any (fun f => f.taken) = true → p.waiting = some ⟨.raw type tag body, taken⟩ →
        p.receiver = .hunt →
        exec (.replySent l) s = exec frame (s.withPart (s.part.modPort l (fun p =>
          { p with inService := none, waiting := none })))))
    ∧ (p.inService.all (fun f => !f.taken) = true → exec (.replySent l) s = .next s)
    ∧ (p.inService.any (fun f => f.taken) = true → p.waiting = none →
      goes (.replySent l) (fun p => { p with inService := none }))

/-- R175 with the forms of R6, R16, R52, R56, R96, R109, R125, R131, R132, R153, R164, R165, R178 and R186: the first check of
the dispatch that fails gives the reply of a request, and the request changes nothing. That a COEFF READ count outside 1..24
and a CONFIG READ of NOTICE_CLASS for a kind that is not routed to the link are MALFORMED is the model's reading (log
entry 18). -/
def Obligations.DispatchOrder : Prop :=
  ∀ (s : State) (i : Instr) (l : Link) (q : Request), requestOf i = some (l, q) →
    (s.part.core.phase = .run ∨ s.part.core.phase = .configWait) →
    let t := q.type
    let answered := fun (x : Result) => exec i s = .next (s.answered l t (refuse x))
    let onT := t ∈ [.trackerReport, .stowAll, .stowAllEnd]
    let onF := t ∈ [.entryRequest, .robotReport, .passComplete, .carriageReport]
    let onFP := t ∈ [.transferRequest, .roundStart, .roundPause, .roundResume, .roundAbort]
    let onAll := t ∈ [.status, .fetchNotice, .permitQuery, .robotQuery, .carriageQuery, .roundQuery, .zoneQuery, .hazardQuery]
    let valid := onAll ∨ (onT ∧ l = .T) ∨ (onF ∧ l = .F) ∨ (onFP ∧ l ≠ .T) ∨ (¬onT ∧ ¬onF ∧ ¬onFP ∧ l = .P)
    let admitted := s.part.core.phase = .run ∨ t ∈ [.status, .fetchNotice, .configWrite, .configRead, .configApply]
    let routed := fun (k : NoticeKind) (l : Link) => k ∈ [.holdBreach, .intrusion, .forcedStow, .hazard, .zoneState]
      ∨ (k = .permit ∧ l = .T)
      ∨ (k ∈ [.entryGrant, .entryFailed, .robotOrder, .transferGrant, .transferEnd] ∧ l = .F)
      ∨ (k ∈ [.robotState, .roundState, .carriageState] ∧ l ≠ .T)
      ∨ (k ∈ [.trackerSilent, .settled, .dueChange, .accountFrozen, .accountsLost, .configState] ∧ l = .P)
    let unrouted := fun (k : Coded NoticeKind) (l : Link) => ∀ n, k = some n → ¬routed n l
    let outside := fun (n limit : Nat) => n = 0 ∨ limit < n
    let unfit : Prop := match q with
      | .permitQuery _ _ form => form = none
      | .trackerReport count entries => outside count 60 ∨ entries.length ≠ count
          ∨ ∃ x ∈ entries, x.state = none ∨ x.state = some .unknown
      | .robotReport _ place _ _ _ => place = none
      | .roundStart slot _ spec => 3 < slot ∨ spec = none
      | .roundPause slot | .roundResume slot | .roundAbort slot => 3 < slot
      | .parkOrder level => level = none
      | .hazardAck h => h = none
      | .windowTest link _ => link = none
      | .intervalReport _ _ count energies => outside count 96 ∨ energies.length ≠ count
      | .coeffWrite none => True
      | .coeffWrite (some (.rows _ count values)) => outside count 24 ∨ values.length ≠ count
      | .coeffWrite (some (.scalar _ _)) => False
      | .coeffRead set _ count => set = none ∨ outside count 24
      | .configWrite item => match item with
          | .unknown => True
          | .rowZone row _ => 96 ≤ row
          | .window n _ => 12 ≤ n
          | .anemEnable _ v => v = none
          | .mode _ v => v = none
          | .lineLevel v => v = none
          | .linkRate v => v = none
          | .noticeClass l k _ _ => unrouted k l
          | .num _ _ | .installed _ | .linkEnable _ _ | .map _ _ => False
      | .configRead item => match item with
          | .unknown => True
          | .rowZone row => 96 ≤ row
          | .window n => 12 ≤ n
          | .noticeClass l k => unrouted k l
          | .num _ | .installed | .linkEnable | .anemEnable _ | .mode _ | .map _ | .lineLevel | .linkRate => False
      | .status | .fetchNotice | .robotQuery _ _ | .carriageQuery | .roundQuery | .zoneQuery | .hazardQuery
      | .stowAll | .stowAllEnd | .entryRequest _ _ | .passComplete _ _ | .carriageReport _ | .transferRequest _ _
      | .parkRelease | .lostRelease _ | .carriageClear | .coeffCommit | .coeffRevoke | .accountRead _
      | .accountClear _ | .configApply | .configSave | .restart => False
    (¬valid → answered .unknownType)
    ∧ (valid → ¬admitted → answered .notReady)
    ∧ (valid → admitted → unfit → answered .malformed)
    ∧ (valid → admitted → ¬unfit → s.part.core.cfg.enabled l = false →
        t ∉ [.status, .fetchNotice, .entryRequest, .transferRequest] → answered .portDisabled)

/-! ### Start-up and configuration (chapter 11) -/

/-- R168, R169, R182, R184, R188 and R189: what a full reset, its release and the loss of main power and of VBAT leave. The
model's own are: that RESET_RELEASE has no effect outside a reset (log entry 8); that a unit of the store is being written in
RUN alone, that a store loss still to be announced survives a further reset, what stands while main power is absent and when
VBAT may be back (log entries 10, 11 and 12); the stopped review timer, the tick not begun (log entry 6), the strap sample due, the port without a reply and
the record of the memory (log entries 13 and 25). -/
def Obligations.ResetAndPower : Prop :=
  ∀ (s : State) (writing : Bool),
    let c := s.part.core
    let kept := c.store.markerValid = true ∧ ¬(writing = true ∧ c.phase = .run)
    let store (v : Bool) : Store := { c.store with markerValid := v }
    let left := fun (image : ImageLeft) => (c.save = none → image = c.image)
      ∧ (c.save ≠ none → ∃ n, 1 ≤ n ∧ n ≤ 5 ∧ image = .cut n)
    (∃ t : State, exec (.fullReset writing) s = .next t
      ∧ t.part.liu = {}
      ∧ (kept → t.part.core.store = c.store ∧ t.part.core.accountsLost = c.accountsLost)
      ∧ (¬kept → t.part.core.store = Store.cleared ∧ t.part.core.accountsLost = true)
      ∧ t.part.core.phase = .inReset ∧ t.part.core.runEntries = 0 ∧ t.part.core.parkOut = true
      ∧ t.part.core.cfg = Settings.defaults ∧ t.part.core.shadow = Settings.defaults ∧ t.part.core.census = none
      ∧ (∀ r, r < 96 → t.part.core.row r = { due := decide (40 ≤ (t.part.core.account r).sl) })
      ∧ (∀ i, t.part.core.robot i = {}) ∧ t.part.core.carriage = {} ∧ (∀ k, t.part.core.slot k = {})
      ∧ t.part.core.wind = {} ∧ t.part.core.line = ⟨0, true, true⟩ ∧ (∀ h, t.part.core.hazard h = {})
      ∧ t.part.core.review = none ∧ t.part.core.ticked = false ∧ (∀ z, t.part.core.zone z = {})
      ∧ t.part.core.coActive = CoeffSet.defaults ∧ t.part.core.coPending = CoeffSet.defaults
      ∧ t.part.core.commit = false ∧ t.part.core.loadCounter = 0 ∧ t.part.core.save = none
      ∧ left t.part.core.image
      ∧ (c.phase ≠ .off → t.part.core.vbat = c.vbat)
      ∧ (c.phase = .off → c.vbat.present = true → t.part.core.vbat.present = true))
    ∧ (∃ image : ImageLeft, left image
      ∧ let off := fun (v : Bool) => exec (.mainPowerLoss writing) s = .next (s.withPart { s.part with
          core := { c with phase := .off, store := store v, save := none, image := image } })
        (kept → c.vbat.present = true → off true) ∧ (kept → c.vbat.present = false → off false) ∧ (¬kept → off false))
    ∧ (c.phase = .off → exec .vbatLoss s = .next (s.withPart { s.part with
        core := { c with store := store false, vbat := { c.vbat with present := false } } }))
    ∧ (c.phase ≠ .off → exec .vbatLoss s = .next (s.withPart { s.part with
        core := { c with vbat := { c.vbat with present := false } } }))
    ∧ (c.phase = .inReset → exec .resetRelease s
        = .next (s.withPart { s.part with core := { c with phase := .loading, review := some c.cfg.review } }))
    ∧ (c.phase ≠ .inReset → exec .resetRelease s = .next s)

/-- R164, R183, R184, R188, R189 and R169: the end of the load. A memory without an image, an image with a fault, and what a
save cut short or failed has left, leave the part in CONFIG_WAIT with CONFIG_STATE queued; a sound image puts its clamped
items and coefficients in force, with the defaults of those it does not hold, and the part in RUN. The frames that the ports
hold are taken after that as if they came then, one link after another; their order T, F, P is the model's own (log entry 9).
That the part's record of an unfinished save decides whatever the memory gives is the model's own (log entry 13), and so is
that a value code outside its item's values and a coefficient scalar named twice make the image INVALID (log entry 14). -/
def Obligations.LoadEnd : Prop :=
  (∀ (s : State) (i : Image), s.part.core.phase = .loading → (∀ l, (s.part.liu.port l).inService = none) →
    let c := s.part.core
    let waits := fun (found : MemoryRead) (o : ConfigOutcome) =>
      exec (.loadEnd found) s = .next (s.told { c with phase := .configWait } [.configState .load o])
    let order := Image.settings i
    let whole := ∃ (body : List Byte) (lo hi : Byte), i.bytes = body ++ [lo, hi] ∧ i.length = body.length + 2
      ∧ crc16 body = hi ++ lo
    let bad := i.format ≠ Config.formatCode ∨ 2048 < i.length ∨ ¬whole ∨ (∃ x ∈ i.items, Item.malformed x = true)
      ∨ ¬(i.items.map Item.ref).Nodup ∨ ¬(i.coeffs.scalars.map (·.1)).Nodup
      ∨ order.breachTol < order.crossTol ∨ ¬(order.windRel < order.windPark ∧ order.windPark < order.windCrit)
      ∨ order.tUpper ≤ order.tLower ∨ (∃ n, n < 12 ∧ (order.window n).limit < (order.window n).base)
      ∨ (Image.coeffSet i).dueOn ≤ (Image.coeffSet i).dueOff
    let scalar := fun (item : CoeffItem) (got default lo hi : Nat) =>
      (∀ v, (item, v) ∈ i.coeffs.scalars → got = max lo (min hi v))
      ∧ ((∀ v, (item, v) ∉ i.coeffs.scalars) → got = default)
    waits .noAnswer .absent
    ∧ waits .headerOnes .absent
    ∧ (∀ n, c.image = .cut n → n < 5 → waits (.image i) .absent)
    ∧ (∀ n, c.image = .cut n → 5 ≤ n → waits (.image i) .invalid)
    ∧ (bad → (∀ n, c.image ≠ .cut n) → waits (.image i) .invalid)
    ∧ (¬bad → (∀ n, c.image ≠ .cut n) → (∀ z, c.zoneClear z = true) → ∃ t : State,
        let t' := t.part.core
        exec (.loadEnd (.image i)) s = .next t
        ∧ t'.phase = .run ∧ t'.runEntries = c.runEntries + 1 ∧ t'.cfg = t'.shadow
        ∧ (∀ x ∈ i.items, t'.shadow.get (Item.ref x) = Item.clamp x)
        ∧ (∀ x, x ∉ i.items.map Item.ref → t'.shadow.get x = Settings.defaults.get x)
        ∧ (∀ r v, i.coeffs.rows[r]? = some v → r < 96 → t'.coActive.track r = v.1 ∧ t'.coActive.alt r = v.2)
        ∧ (∀ r, i.coeffs.rows.length ≤ r → t'.coActive.track r = 0 ∧ t'.coActive.alt r = 0)
        ∧ scalar .w t'.coActive.w 4 1 16 ∧ scalar .eMin t'.coActive.eMin 200 1 65535
        ∧ scalar .dueOn t'.coActive.dueOn 40 1 1000 ∧ scalar .dueOff t'.coActive.dueOff 20 0 1000
        ∧ scalar .loadEvery t'.coActive.loadEvery 1 1 16
        ∧ t'.coPending = t'.coActive ∧ t'.review = some t'.cfg.review ∧ t'.census = some t'.cfg.census
        ∧ t'.accountsLost = false ∧ t'.parkOut = false
        ∧ (∀ r, r < 96 → r < t'.cfg.rows → t'.row r = { c.row r with
            silence := some t'.cfg.trackerSilence, latch := (c.row r).mode, mixed := true
            due := decide (t'.coActive.dueOn ≤ (c.account r).sl) })
        ∧ { t' with
            phase := c.phase, runEntries := c.runEntries, cfg := c.cfg, shadow := c.shadow, coActive := c.coActive
            coPending := c.coPending, review := c.review, census := c.census, accountsLost := c.accountsLost
            rows := c.rows, parkOut := c.parkOut } = c))
  ∧ ∀ (s : State) (held : Link → Option (Byte × Byte × List Byte)) (found : MemoryRead), s.part.core.phase = .loading →
    (∀ l, (s.part.liu.port l).inService = (held l).map (fun x => ⟨.raw x.1 x.2.1 x.2.2, false⟩)) →
    (∀ l x, held l = some x → (s.part.liu.port l).receiver = .hunt ∧ x.2.2.length ≤ 248) →
    let free := fun (p : Port) => { p with inService := none }
    let bare := s.withPart { s.part with liu := ⟨free s.part.liu.t, free s.part.liu.f, free s.part.liu.p⟩ }
    let frames := [Link.T, .F, .P].filterMap (fun l =>
      (held l).map (fun x => Instr.frameComplete l x.1 x.2.1 x.2.2))
    ∃ t u : State, exec (.loadEnd found) s = .next t ∧ exec (.loadEnd found) bare = .next u
      ∧ ({ u with pending := frames } : State).after frames.length = some { t with pending := [] }

/-- R185, R186, R127, R128 and R132: CONFIG WRITE refuses geometry in RUN and a value that breaks an ordering; otherwise the
shadow takes the clamped value, which is in force at once in RUN, and in CONFIG_WAIT for the windows, the link enables and
the notice classes alone. A LINE_LEVEL written in RUN moves a present LINE cause, which latches or raises its hazard when it
rises. CONFIG READ returns the shadow's value. That LINK_RATE is not put in force is the model's reading (log entry 32), and
that a ROW_ZONE of a row at or above ROWS but below 96 is read and written as any other, where R1 speaks of BAD_ROW, is the
model's own (log entry 41). -/
def Obligations.ConfigWriteAndRead : Prop :=
  ∀ (s : State) (item : Item), (s.part.core.phase = .run ∨ s.part.core.phase = .configWait) →
    s.part.core.shadow.ordered = true → Item.malformed item = false →
    let c := s.part.core
    let x := Item.clamp item
    let geometry := (∃ v, item = .num .rows v) ∨ (∃ r v, item = .rowZone r v) ∨ ∃ v, item = .installed v
    let immediate := (∃ n w, item = .window n w) ∨ (∃ t f, item = .linkEnable t f) ∨ ∃ l k p m, item = .noticeClass l k p m
    let rate := ∃ v, item = .linkRate v
    let refused := fun (r : Result) =>
      exec (.configWrite .P item) s = .next ((s.told c []).answered .P .configWrite (refuse r))
    let admitted := ¬(c.phase = .run ∧ geometry)
    (c.phase = .run → geometry → refused .state)
    ∧ (admitted → (c.shadow.set x).ordered = false → refused .invalid)
    ∧ (admitted → (c.shadow.set x).ordered = true → ∃ t : State,
        let t' := t.part.core
        exec (.configWrite .P item) s = .next t
        ∧ t.replyOn .P = some (refuse (if x = item then .done else .clamped))
        ∧ t'.shadow.get (Item.ref item) = x
        ∧ (∀ y, y ≠ Item.ref item → t'.shadow.get y = c.shadow.get y)
        ∧ (¬rate → (c.phase = .run ∨ immediate) → t'.cfg.get (Item.ref item) = x
            ∧ ∀ y, y ≠ Item.ref item → t'.cfg.get y = c.cfg.get y)
        ∧ ((rate ∨ (c.phase = .configWait ∧ ¬immediate)) → t'.cfg = c.cfg)
        ∧ (∀ h, h ≠ .line → t'.hazard h = c.hazard h)
        ∧ ((∀ v, item ≠ .lineLevel v) → t'.hazard .line = c.hazard .line)
        ∧ (∀ v, item = .lineLevel (some v) →
          let y := c.hazard .line
          let rises := rank y.cause < rank (some v)
          (c.phase = .configWait ∨ y.cause = none → t'.hazard .line = y)
          ∧ (c.phase = .run → y.cause ≠ none → rises → y.latched = false →
              t'.hazard .line = ⟨some v, true, some v, false, false⟩)
          ∧ (c.phase = .run → y.cause ≠ none → rises → y.latched = true →
              t'.hazard .line = { y with cause := some v, level := some v, ackPending := false })
          ∧ (c.phase = .run → y.cause ≠ none → ¬rises → t'.hazard .line = { y with cause := some v }))
        ∧ { t'.keptButZones with shadow := c.shadow, cfg := c.cfg, hazards := c.hazards, parkOut := c.parkOut }
          = c.keptButZones)
    ∧ exec (.configRead .P (Item.ref item)) s
        = .next (s.answered .P .configRead ⟨.done, .item (c.shadow.get (Item.ref item))⟩)

/-- R187, R188, R189 and R190: CONFIG APPLY puts the shadow in force and the part in RUN; CONFIG SAVE and the end of a save;
RESTART empties the notice queues, clears the ports' counts, gives the rows, robots, carriage and slots their warm-restart
values and keeps the rest. That SAVE_TIMEOUT changes nothing while the save timer has time left is the model's own (log entry
6). That CONFIG APPLY leaves LINK_RATE in force as it is, where R187 speaks of every
item and R186 of a full reset, and RESTART too, is the model's reading (log entry 32); what the memory holds of a save that
has failed is its record (log entries 13 and 34). -/
def Obligations.ApplySaveRestart : Prop :=
  ∀ s : State,
    let c := s.part.core
    let cleared := fun (p : Port) => { p with queue := [], drops := 0, frameErrors := 0, overruns := 0 }
    let emptied := s.withPart { s.part with
      liu := ⟨cleared s.part.liu.t, cleared s.part.liu.f, cleared s.part.liu.p⟩ }
    let entered := fun (t : Core) => t.phase = .run ∧ t.runEntries = c.runEntries + 1
      ∧ t.census = some t.cfg.census ∧ t.accountsLost = false
    (c.phase = .run →
      exec (.configApply .P) s = .next ((s.told c []).answered .P .configApply (refuse .state)))
    ∧ (c.phase = .configWait → ∃ t : State,
        let t' := t.part.core
        exec (.configApply .P) s = .next t
        ∧ t.replyOn .P = some (refuse .done)
        ∧ entered t' ∧ t'.cfg = { c.shadow with linkRate := c.cfg.linkRate } ∧ t'.shadow = c.shadow
        ∧ t'.coActive = c.coActive ∧ t'.coPending = c.coActive ∧ t'.store = c.store
        ∧ (∀ r, r < 96 → r < t'.cfg.rows → (t'.row r).silence = some t'.cfg.trackerSilence ∧ (t'.row r).mixed = true
            ∧ ((c.row r).permit = .still → t'.rowClear r = false →
                (t'.row r).permit = .stow ∧ (t'.row r).latch = .stowed)))
    ∧ (c.phase = .run → c.save = none → exec (.configSave .P) s = .next ((s.withPart { s.part with core := { c with
        save := some ⟨⟨c.shadow, c.coActive⟩, 10⟩, image := .cut 1 } }).answered .P .configSave (refuse .accepted)))
    ∧ (c.phase = .run → c.save ≠ none →
        exec (.configSave .P) s = .next (s.answered .P .configSave (refuse .busy)))
    ∧ (∀ x, c.phase = .run → c.save = some x →
        let failed := fun (n : Nat) => s.told { c with save := none, image := .cut n } [.configState .save .failed]
        exec (.saveComplete true) s
          = .next (s.told { c with save := none, image := .valid x.snapshot } [.configState .save .done])
        ∧ exec (.saveComplete false) s = .next (failed 5)
        ∧ (x.timer = 0 → ∃ n, 1 ≤ n ∧ n ≤ 5 ∧ exec .saveTimeout s = .next (failed n))
        ∧ (2 ≤ x.timer → exec .saveTimeout s = .next (s.told c [])))
    ∧ (c.phase = .run → ∃ t : State,
        let t' := t.part.core
        exec (.restart .P) s = .next t
        ∧ t.replyOn .P = some (refuse .done)
        ∧ entered t'
        ∧ (∀ l, (t.part.liu.port l).frameErrors = 0 ∧ (t.part.liu.port l).overruns = 0
            ∧ (t.part.liu.port l).receiver = (s.part.liu.port l).receiver
            ∧ (t.part.liu.port l).inService = (s.part.liu.port l).inService
            ∧ (t.part.liu.port l).waiting = (s.part.liu.port l).waiting)
        ∧ (∃ ns, t = (emptied.told t' ns).answered .P .restart (refuse .done)
            ∧ ((∀ z, c.zoneClear z = true) → c.accountsLost = false → c.carriage.state = .idle →
                c.carriage.passenger = none → c.carriage.throttle = false → ns = []))
        ∧ (∀ i, t'.robot i = {}) ∧ t'.carriage = {} ∧ (∀ k, t'.slot k = {})
        ∧ (∀ r, r < 96 → r < c.cfg.rows → c.rowClear r = true → t'.row r
            = { silence := some c.cfg.trackerSilence, due := (c.row r).due, latch := .held, mixed := true })
        ∧ (∀ r, r < 96 → r < c.cfg.rows → c.rowClear r = false → t'.row r
            = { permit := .stow, silence := some c.cfg.trackerSilence, due := (c.row r).due, latch := .stowed
                mixed := true })
        ∧ (∀ z, (t'.zone z).level = (c.zone z).level ∧ ((t'.zone z).state = .clear ↔ (c.zone z).state = .clear))
        ∧ { t' with
            runEntries := c.runEntries, census := c.census, accountsLost := c.accountsLost, rows := c.rows
            robots := c.robots, carriage := c.carriage, slots := c.slots, zones := c.zones, parkOut := c.parkOut } = c)

/-- R184 and R186: no step leaves the shadow with values out of order, and in RUN the shadow's values are in force, LINK_RATE
apart. -/
def Obligations.StepKeepsConfigurationLaw : Prop :=
  ∀ s t : State, s.part.core.configLaw → step s = .next t → t.part.core.configLaw

/-- The state after reset keeps every law that the steps keep. Its store is the cleared one of R168 (log entry 5). -/
def Obligations.ResetKeepsTheLaws : Prop :=
  let s := State.reset
  let c := s.part.core
  c.stationLaw ∧ c.carriage.queueLaw ∧ c.roundLaw ∧ c.zoneLaw ∧ c.quietStart ∧ c.parkOutLaw ∧ s.part.liu.lawful
  ∧ c.store.lawful ∧ c.coActive.w ≤ 16 ∧ c.coPending.w ≤ 16 ∧ c.configLaw
end

