-- ==== Sys2Proof/Laws/State.lean ====
section
/-! SUPPORT. Reading the state after an update: tables, records, ports and events, one lemma for each field and update. -/

namespace Sys2Proof

/-! ### Tables -/

theorem look_of_lt {α : Type} {n : Nat} (v : Vector α n) (d : α) (i : Nat) (h : i < n) : look v d i = v[i] := by
  simp [look, h]

theorem look_of_ge {α : Type} {n : Nat} (v : Vector α n) (d : α) (i : Nat) (h : n ≤ i) : look v d i = d := by
  simp [look, Nat.not_lt.mpr h]

theorem look_upd_same {α : Type} {n : Nat} (v : Vector α n) (d : α) (i : Nat) (f : α → α) (h : i < n) :
    look (upd v i f) d i = f (look v d i) := by
  simp [look, upd, h]

theorem look_upd_ne {α : Type} {n : Nat} (v : Vector α n) (d : α) (i j : Nat) (f : α → α) (h : j ≠ i) :
    look (upd v i f) d j = look v d j := by
  unfold look upd
  split
  · split
    · rw [Vector.getElem_set_ne]; exact fun e => h e.symm
    · rfl
  · rfl

theorem upd_of_ge {α : Type} {n : Nat} (v : Vector α n) (i : Nat) (f : α → α) (h : n ≤ i) : upd v i f = v := by
  simp [upd, Nat.not_lt.mpr h]

/-- Every entry after an update: the changed one at its number, the others as before. -/
theorem look_upd {α : Type} {n : Nat} (v : Vector α n) (d : α) (i j : Nat) (f : α → α) :
    look (upd v i f) d j = if j = i ∧ i < n then f (look v d j) else look v d j := by
  by_cases h : j = i
  · subst h
    by_cases hn : j < n
    · simp [hn, look_upd_same]
    · simp [hn, upd_of_ge v j f (Nat.le_of_not_lt hn)]
  · simp [h, look_upd_ne]

theorem look_map {α β : Type} {n : Nat} (v : Vector α n) (d : α) (g : α → β) (i : Nat) :
    look (v.map g) (g d) i = g (look v d i) := by
  unfold look
  split <;> simp

theorem look_mapIdx {α : Type} {n : Nat} (v : Vector α n) (d : α) (g : Nat → α → α) (i : Nat) (h : i < n) :
    look (v.mapIdx g) d i = g i (look v d i) := by
  simp [look, h]

theorem look_replicate {α : Type} {n : Nat} (d : α) (i : Nat) : look (Vector.replicate n d) d i = d := by
  unfold look
  split <;> simp

/-- Two updates of one entry are one update. -/
theorem upd_upd {α : Type} {n : Nat} (v : Vector α n) (i : Nat) (f g : α → α) :
    upd (upd v i f) i g = upd v i (fun x => g (f x)) := by
  unfold upd
  split
  · simp
  · rfl

/-- An update is the same as another that does the same to the one entry it changes. -/
theorem upd_congr {α : Type} {n : Nat} (v : Vector α n) (d : α) (i : Nat) (f g : α → α) (h : f (look v d i) = g (look v d i)) :
    upd v i f = upd v i g := by
  unfold upd
  split
  · rename_i hi
    rw [look_of_lt v d i hi] at h
    rw [h]
  · rfl

/-- A view of every entry that an update keeps is the same after it. -/
theorem map_upd {α β : Type} {n : Nat} (v : Vector α n) (i : Nat) (f : α → α) (g : α → β) (h : ∀ x, g (f x) = g x) :
    (upd v i f).map g = v.map g := by
  unfold upd
  split
  · apply Vector.ext
    intro j hj
    by_cases e : i = j
    · subst e; simp [h]
    · simp [Vector.getElem_set_ne, e]
  · rfl

/-- A view of every entry is the same after an update that keeps the view of the one entry it changes. -/
theorem map_upd_at {α β : Type} {n : Nat} (v : Vector α n) (i : Nat) (f : α → α) (g : α → β) (d : α)
    (h : g (f (look v d i)) = g (look v d i)) : (upd v i f).map g = v.map g := by
  unfold upd
  split
  · rename_i hi
    rw [look_of_lt v d i hi] at h
    apply Vector.ext
    intro j hj
    by_cases e : i = j
    · subst e; simp [h]
    · simp [Vector.getElem_set_ne, e]
  · rfl

namespace Machine

/-! ### Records of the core -/

theorem Core.row_modRow_same (c : Core) (r : Nat) (f : RowRec → RowRec) (h : r < 96) :
    (c.modRow r f).row r = f (c.row r) := look_upd_same c.rows {} r f h

theorem Core.row_modRow_ne (c : Core) (r q : Nat) (f : RowRec → RowRec) (h : q ≠ r) :
    (c.modRow r f).row q = c.row q := look_upd_ne c.rows {} r q f h

theorem Core.row_modRow (c : Core) (r q : Nat) (f : RowRec → RowRec) :
    (c.modRow r f).row q = if q = r ∧ r < 96 then f (c.row q) else c.row q := look_upd c.rows {} r q f

theorem Core.robot_modRobot (c : Core) (i j : Nat) (f : Robot → Robot) :
    (c.modRobot i f).robot j = if j = i ∧ i < 8 then f (c.robot j) else c.robot j := look_upd c.robots {} i j f

theorem Core.slot_modSlot (c : Core) (k j : Nat) (f : Slot → Slot) :
    (c.modSlot k f).slot j = if j = k ∧ k < 4 then f (c.slot j) else c.slot j := look_upd c.slots {} k j f

theorem Core.zone_modZone (c : Core) (z y : Nat) (f : ZoneRec → ZoneRec) :
    (c.modZone z f).zone y = if y = z ∧ z < 8 then f (c.zone y) else c.zone y := look_upd c.zones {} z y f

theorem Core.account_modAccount (c : Core) (r q : Nat) (f : Account → Account) :
    (c.modAccount r f).account q = if q = r ∧ r < 96 then f (c.account q) else c.account q :=
  look_upd c.store.rows {} r q f

theorem Core.modRow_modRow (c : Core) (r : Nat) (f g : RowRec → RowRec) :
    (c.modRow r f).modRow r g = c.modRow r (fun x => g (f x)) := by
  simp only [Core.modRow, upd_upd]

theorem Core.modRow_congr (c : Core) (r : Nat) (f g : RowRec → RowRec) (h : f (c.row r) = g (c.row r)) :
    c.modRow r f = c.modRow r g := by
  simp only [Core.modRow, upd_congr c.rows {} r f g h]

/-- A row record that is not the reset record stands in the table. -/
theorem Core.row_lt (c : Core) (r : Nat) (h : c.row r ≠ {}) : r < 96 :=
  Decidable.byContradiction fun q => h (look_of_ge c.rows {} r (Nat.le_of_not_lt q))

@[simp] theorem Core.robot_modRow (c : Core) (r i : Nat) (f : RowRec → RowRec) : (c.modRow r f).robot i = c.robot i := rfl
@[simp] theorem Core.slot_modRow (c : Core) (r k : Nat) (f : RowRec → RowRec) : (c.modRow r f).slot k = c.slot k := rfl
@[simp] theorem Core.zone_modRow (c : Core) (r z : Nat) (f : RowRec → RowRec) : (c.modRow r f).zone z = c.zone z := rfl
@[simp] theorem Core.account_modRow (c : Core) (r q : Nat) (f : RowRec → RowRec) :
    (c.modRow r f).account q = c.account q := rfl
@[simp] theorem Core.hazard_modRow (c : Core) (r : Nat) (f : RowRec → RowRec) (h : Hazard) :
    (c.modRow r f).hazard h = c.hazard h := rfl
@[simp] theorem Core.cfg_modRow (c : Core) (r : Nat) (f : RowRec → RowRec) : (c.modRow r f).cfg = c.cfg := rfl
@[simp] theorem Core.phase_modRow (c : Core) (r : Nat) (f : RowRec → RowRec) : (c.modRow r f).phase = c.phase := rfl
@[simp] theorem Core.carriage_modRow (c : Core) (r : Nat) (f : RowRec → RowRec) :
    (c.modRow r f).carriage = c.carriage := rfl
@[simp] theorem Core.census_modRow (c : Core) (r : Nat) (f : RowRec → RowRec) : (c.modRow r f).census = c.census := rfl

@[simp] theorem Core.row_modRobot (c : Core) (i r : Nat) (f : Robot → Robot) : (c.modRobot i f).row r = c.row r := rfl
@[simp] theorem Core.slot_modRobot (c : Core) (i k : Nat) (f : Robot → Robot) : (c.modRobot i f).slot k = c.slot k := rfl
@[simp] theorem Core.zone_modRobot (c : Core) (i z : Nat) (f : Robot → Robot) : (c.modRobot i f).zone z = c.zone z := rfl
@[simp] theorem Core.account_modRobot (c : Core) (i q : Nat) (f : Robot → Robot) :
    (c.modRobot i f).account q = c.account q := rfl
@[simp] theorem Core.hazard_modRobot (c : Core) (i : Nat) (f : Robot → Robot) (h : Hazard) :
    (c.modRobot i f).hazard h = c.hazard h := rfl
@[simp] theorem Core.cfg_modRobot (c : Core) (i : Nat) (f : Robot → Robot) : (c.modRobot i f).cfg = c.cfg := rfl
@[simp] theorem Core.carriage_modRobot (c : Core) (i : Nat) (f : Robot → Robot) :
    (c.modRobot i f).carriage = c.carriage := rfl

@[simp] theorem Core.row_modSlot (c : Core) (k r : Nat) (f : Slot → Slot) : (c.modSlot k f).row r = c.row r := rfl
@[simp] theorem Core.robot_modSlot (c : Core) (k i : Nat) (f : Slot → Slot) : (c.modSlot k f).robot i = c.robot i := rfl
@[simp] theorem Core.zone_modSlot (c : Core) (k z : Nat) (f : Slot → Slot) : (c.modSlot k f).zone z = c.zone z := rfl
@[simp] theorem Core.cfg_modSlot (c : Core) (k : Nat) (f : Slot → Slot) : (c.modSlot k f).cfg = c.cfg := rfl
@[simp] theorem Core.carriage_modSlot (c : Core) (k : Nat) (f : Slot → Slot) :
    (c.modSlot k f).carriage = c.carriage := rfl

@[simp] theorem Core.row_modZone (c : Core) (z r : Nat) (f : ZoneRec → ZoneRec) : (c.modZone z f).row r = c.row r := rfl
@[simp] theorem Core.robot_modZone (c : Core) (z i : Nat) (f : ZoneRec → ZoneRec) :
    (c.modZone z f).robot i = c.robot i := rfl
@[simp] theorem Core.cfg_modZone (c : Core) (z : Nat) (f : ZoneRec → ZoneRec) : (c.modZone z f).cfg = c.cfg := rfl

@[simp] theorem Core.row_modCarriage (c : Core) (r : Nat) (f : Carriage → Carriage) :
    (c.modCarriage f).row r = c.row r := rfl
@[simp] theorem Core.robot_modCarriage (c : Core) (i : Nat) (f : Carriage → Carriage) :
    (c.modCarriage f).robot i = c.robot i := rfl
@[simp] theorem Core.zone_modCarriage (c : Core) (z : Nat) (f : Carriage → Carriage) :
    (c.modCarriage f).zone z = c.zone z := rfl
@[simp] theorem Core.cfg_modCarriage (c : Core) (f : Carriage → Carriage) : (c.modCarriage f).cfg = c.cfg := rfl
@[simp] theorem Core.carriage_modCarriage (c : Core) (f : Carriage → Carriage) :
    (c.modCarriage f).carriage = f c.carriage := rfl

@[simp] theorem Core.hazard_setHazard_same (c : Core) (h : Hazard) (x : HazardRec) : (c.setHazard h x).hazard h = x := by
  cases h <;> rfl

theorem Core.hazard_setHazard_ne (c : Core) (h k : Hazard) (x : HazardRec) (e : k ≠ h) :
    (c.setHazard h x).hazard k = c.hazard k := by
  cases h <;> cases k <;> first | rfl | exact absurd rfl e

@[simp] theorem Core.row_setHazard (c : Core) (h : Hazard) (x : HazardRec) (r : Nat) :
    (c.setHazard h x).row r = c.row r := rfl
@[simp] theorem Core.zone_setHazard (c : Core) (h : Hazard) (x : HazardRec) (z : Nat) :
    (c.setHazard h x).zone z = c.zone z := rfl
@[simp] theorem Core.cfg_setHazard (c : Core) (h : Hazard) (x : HazardRec) : (c.setHazard h x).cfg = c.cfg := rfl

/-! ### Ports -/

@[simp] theorem Liu.port_modPort_same (u : Liu) (l : Link) (f : Port → Port) :
    (u.modPort l f).port l = f (u.port l) := by cases l <;> rfl

theorem Liu.port_modPort_ne (u : Liu) (l k : Link) (f : Port → Port) (h : k ≠ l) :
    (u.modPort l f).port k = u.port k := by
  cases l <;> cases k <;> first | rfl | exact absurd rfl h

theorem Liu.port_modPort (u : Liu) (l k : Link) (f : Port → Port) :
    (u.modPort l f).port k = if k = l then f (u.port k) else u.port k := by
  by_cases h : k = l
  · subst h; simp
  · simp [h, Liu.port_modPort_ne]

theorem Liu.ext_port {u v : Liu} (h : ∀ l, u.port l = v.port l) : u = v := by
  cases u; cases v
  have ht := h .T
  have hf := h .F
  have hp := h .P
  simp only [Liu.port] at ht hf hp
  subst ht hf hp
  rfl

@[simp] theorem Part.core_modPort (p : Part) (l : Link) (f : Port → Port) : (p.modPort l f).core = p.core := rfl
@[simp] theorem Part.liu_modPort (p : Part) (l : Link) (f : Port → Port) : (p.modPort l f).liu = p.liu.modPort l f := rfl

/-! ### Events -/

@[simp] theorem Ev.core_start (c : Core) : (Ev.start c).core = c := rfl
@[simp] theorem Ev.work_start (c : Core) : (Ev.start c).work = [] := rfl
@[simp] theorem Ev.out_start (c : Core) : (Ev.start c).out = [] := rfl
@[simp] theorem Ev.core_mod (e : Ev) (f : Core → Core) : (e.mod f).core = f e.core := rfl
@[simp] theorem Ev.work_mod (e : Ev) (f : Core → Core) : (e.mod f).work = e.work := rfl
@[simp] theorem Ev.out_mod (e : Ev) (f : Core → Core) : (e.mod f).out = e.out := rfl
@[simp] theorem Ev.core_modRow (e : Ev) (r : Nat) (f : RowRec → RowRec) : (e.modRow r f).core = e.core.modRow r f := rfl
@[simp] theorem Ev.work_modRow (e : Ev) (r : Nat) (f : RowRec → RowRec) : (e.modRow r f).work = e.work := rfl
@[simp] theorem Ev.out_modRow (e : Ev) (r : Nat) (f : RowRec → RowRec) : (e.modRow r f).out = e.out := rfl
@[simp] theorem Ev.core_modRobot (e : Ev) (i : Nat) (f : Robot → Robot) : (e.modRobot i f).core = e.core.modRobot i f := rfl
@[simp] theorem Ev.work_modRobot (e : Ev) (i : Nat) (f : Robot → Robot) : (e.modRobot i f).work = e.work := rfl
@[simp] theorem Ev.out_modRobot (e : Ev) (i : Nat) (f : Robot → Robot) : (e.modRobot i f).out = e.out := rfl
@[simp] theorem Ev.core_modSlot (e : Ev) (k : Nat) (f : Slot → Slot) : (e.modSlot k f).core = e.core.modSlot k f := rfl
@[simp] theorem Ev.work_modSlot (e : Ev) (k : Nat) (f : Slot → Slot) : (e.modSlot k f).work = e.work := rfl
@[simp] theorem Ev.core_modCarriage (e : Ev) (f : Carriage → Carriage) :
    (e.modCarriage f).core = e.core.modCarriage f := rfl
@[simp] theorem Ev.work_modCarriage (e : Ev) (f : Carriage → Carriage) : (e.modCarriage f).work = e.work := rfl
@[simp] theorem Ev.core_hand (e : Ev) (h : Handoff) : (e.hand h).core = e.core := rfl
@[simp] theorem Ev.work_hand (e : Ev) (h : Handoff) : (e.hand h).work = e.work ++ [h] := rfl
@[simp] theorem Ev.out_hand (e : Ev) (h : Handoff) : (e.hand h).out = e.out := rfl
@[simp] theorem Ev.core_handAll (e : Ev) (hs : List Handoff) : (e.handAll hs).core = e.core := rfl
@[simp] theorem Ev.work_handAll (e : Ev) (hs : List Handoff) : (e.handAll hs).work = e.work ++ hs := rfl
@[simp] theorem Ev.core_tell (e : Ev) (a : Announcement) : (e.tell a).core = e.core := rfl
@[simp] theorem Ev.work_tell (e : Ev) (a : Announcement) : (e.tell a).work = e.work := rfl
@[simp] theorem Ev.core_note (e : Ev) (n : Notice) : (e.note n).core = e.core := rfl
@[simp] theorem Ev.work_note (e : Ev) (n : Notice) : (e.note n).work = e.work := rfl
@[simp] theorem Ev.core_tellOnce (e : Ev) (a : Announcement) : (e.tellOnce a).core = e.core := by
  unfold Ev.tellOnce; split <;> rfl
@[simp] theorem Ev.work_tellOnce (e : Ev) (a : Announcement) : (e.tellOnce a).work = e.work := by
  unfold Ev.tellOnce; split <;> rfl

/-! ### The machine -/

@[simp] theorem State.part_withPart (s : State) (p : Part) : (s.withPart p).part = p := rfl
@[simp] theorem State.pending_withPart (s : State) (p : Part) : (s.withPart p).pending = s.pending := rfl
@[simp] theorem Part.liu_drivePins_queue (p : Part) (l : Link) : (p.drivePins.liu.port l).queue = (p.liu.port l).queue := by
  cases l <;> rfl

end Machine

end Sys2Proof
end

