-- ==== Sys2Proof/Laws/Blocks.lean ====
section
/-! SUPPORT. What each shared operation of the fleet, the carriage, the rounds, the hazards, the zones and the notice queues
does, said once: its core, its hand-offs and its notices. -/

namespace Sys2Proof.Machine

/-! ### Orders (R71) -/

theorem order_eq (e : Ev) (i : Nat) (o : Order) (row : Option Nat) :
    e.order i o row = ⟨e.core.modRobot i (fun x => { x with
        lastOrder := some (o, row)
        returnFlag := match o with
          | .ret => true
          | .goRow | .anchor => false
          | .holdAtStation | .resume => x.returnFlag }), e.work, e.out ++ [.note (.robotOrder i o row)]⟩ := rfl

theorem orderHere_eq (e : Ev) (i : Nat) (o : Order) : e.orderHere i o = e.order i o (e.core.robot i).row := rfl

/-! ### The carriage (R76 to R92) -/

theorem sayCarriage_eq (e : Ev) : e.sayCarriage = ⟨e.core, e.work, e.out ++ [.note e.core.carriage.notice]⟩ := rfl

theorem setInbound_eq (e : Ev) (row : Nat) (i : Option Nat) :
    e.setInbound row i = ⟨e.core.modRow row (fun x => { x with inbound := i }), e.work, e.out⟩ := rfl

theorem evalThrottle_same (e : Ev)
    (h : throttleAfter e.core.cfg e.core.carriage.throttle e.core.carriage.queue.length = e.core.carriage.throttle) :
    e.evalThrottle = e := if_pos h

/-- A queue entry stands before a new one, or is a ROUND entry behind a SERVICE one (R76). -/
theorem mem_enqueue (t x : Transfer) (q : List Transfer) : x ∈ enqueue t q ↔ x = t ∨ x ∈ q := by
  unfold enqueue
  cases t.cls <;> simp only [List.mem_append, List.mem_cons, List.mem_filter, List.not_mem_nil,
    or_false, beq_iff_eq]
  · constructor
    · rintro (⟨h, -⟩ | h | ⟨h, -⟩)
      · exact .inr h
      · exact .inl h
      · exact .inr h
    · rintro (h | h)
      · exact .inr (.inl h)
      · cases hx : x.cls
        · exact .inl ⟨h, rfl⟩
        · exact .inr (.inr ⟨h, rfl⟩)
  · exact or_comm

theorem enqueue_length (t : Transfer) (q : List Transfer) : (enqueue t q).length = q.length + 1 := by
  unfold enqueue
  cases t.cls
  · have h : ∀ q : List Transfer,
        (q.filter (fun x => x.cls == .service)).length + (q.filter (fun x => x.cls == .round)).length = q.length := by
      intro q
      induction q with
      | nil => rfl
      | cons x xs ih => cases hx : x.cls <;> simp [hx] <;> omega
    have := h q
    simp only [List.length_append, List.length_cons]
    omega
  · simp

theorem grantConsideration_busy (e : Ev) (h : e.core.carriage.state ≠ .idle) : e.grantConsideration = e := if_neg h

/-! ### Rounds (R95 to R117) -/

theorem releaseClaim_eq (e : Ev) (k r : Nat) : e.releaseClaim k r
    = ⟨e.core.modRow r (fun x => { x with claim := if x.claim = some k then none else x.claim }), e.work, e.out⟩ := rfl

theorem suspend_eq (e : Ev) (k : Nat) : e.suspend k = (e.modSlot k (fun s => { s with
    state := .suspended, current := s.current.map (fun p => (p.1, .seeking)) })).sayRound k := rfl

theorem setPhase_eq (e : Ev) (k r : Nat) (p : RowPhase) :
    e.setPhase k r p = (e.modSlot k (fun s => { s with current := some (r, p) })).sayRound k := rfl

/-- A slot that is IDLE or ENDED does nothing with a hand-off (R94). -/
theorem toSlot_off (e : Ev) (k : Nat) (f : Slot → Ev)
    (h : (e.core.slot k).state = .idle ∨ (e.core.slot k).state = .ended) : e.toSlot k f = e := if_pos h

/-- A slot at work whose robot is not LOST acts on a hand-off by its own rule (R113). -/
theorem toSlot_on (e : Ev) (k : Nat) (f : Slot → Ev) (h1 : (e.core.slot k).state ≠ .idle)
    (h2 : (e.core.slot k).state ≠ .ended)
    (h3 : (e.core.slot k).robot.any (fun i => (e.core.robot i).state == .lost) = false) :
    e.toSlot k f = f (e.core.slot k) := by
  unfold Ev.toSlot
  rw [if_neg (not_or.mpr ⟨h1, h2⟩)]
  simp [h3]

/-! ### Hazards and zones (R128 to R136) -/

theorem putHazard_same (e : Ev) (h : Hazard) : e.putHazard h (e.core.hazard h) = e := if_pos rfl

theorem putHazard_changed (e : Ev) (h : Hazard) (x : HazardRec) (hx : x ≠ e.core.hazard h) :
    e.putHazard h x = ⟨e.core.setHazard h x,
      e.work ++ ((if x.latched = (e.core.hazard h).latched ∧ x.level = (e.core.hazard h).level then []
          else zonesOf ((e.core.setHazard h x).cfg.map h)).map
            (fun z => Handoff.evalZone z (x.latched != (e.core.hazard h).latched)) ++ [.announceHazard h]),
      e.out⟩ := if_neg hx

@[simp] theorem hazard_setHazard (c : Core) (h : Hazard) (x : HazardRec) : (c.setHazard h x).hazard h = x := by
  cases h <;> rfl

theorem hazard_setHazard_ne (c : Core) (h g : Hazard) (x : HazardRec) (hn : g ≠ h) :
    (c.setHazard h x).hazard g = c.hazard g := by
  cases h <;> cases g <;> first | rfl | exact absurd rfl hn

theorem zoneTest_clear (e : Ev) (z : Nat) (c0 : Core) (h : e.core.zoneClear z = true) : e.zoneTest z c0 = e := if_pos h

/-! ### Timers (section 4.2) -/

theorem expired_iff (t : Option Nat) : expired t = true ↔ t = some 0 := beq_iff_eq

@[simp] theorem expired_zero : expired (some 0) = true := rfl
@[simp] theorem expired_none : expired none = false := rfl
@[simp] theorem expired_succ (n : Nat) : expired (some (n + 1)) = false := rfl

/-! ### Settling (R57) -/

/-- With no settling hand-off at its head the work of an event is delivered as it stands. -/
theorem settle_none (e : Ev) (h : e.work.takeWhile Handoff.settles = []) : e.settle = e := by
  have d : e.work.dropWhile Handoff.settles = e.work := by
    have := List.takeWhile_append_dropWhile (p := Handoff.settles) (l := e.work)
    rwa [h, List.nil_append] at this
  unfold Ev.settle
  rw [h, d]
  rfl

/-! ### Notice queues (R179) -/

theorem enqueue_masked (p : Port) (k : NoticeClass) (n : Notice) (h : k.masked = true) : p.enqueue k n = p := if_pos h

theorem dropNewest_length_le (level : Nat) (q : List Queued) : (dropNewest level q).length ≤ q.length := by
  induction q with
  | nil => exact Nat.le_refl _
  | cons x xs ih =>
    unfold dropNewest
    split
    · exact Nat.le_succ _
    · exact Nat.succ_le_succ ih

end Sys2Proof.Machine
end

