-- ==== Sys2Proof/Laws/Kept.lean ====
section
/-! SUPPORT. What no hand-off between the blocks changes: everything of the core but permits with their entries and
timers, orders and rounds of the robots, the carriage, the slots and whether a zone that parks is secured. The pass credit
and the zone evaluation are the two hand-offs that do more. -/

namespace Sys2Proof.Machine

/-- A hand-off that changes nothing of `Core.kept`. -/
@[reducible] def Handoff.plain : Handoff → Bool
  | .passCredit _ | .evalZone _ _ => false
  | _ => true

/-- What a plain hand-off leaves alone of an event: the kept core, and that all its hand-offs are plain. -/
def Ev.view (e : Ev) : Core × Bool := (e.core.kept, e.work.all Handoff.plain)

/-! ### The small operations -/

@[simp] theorem view_hand (e : Ev) (h : Handoff) (p : h.plain = true) : (e.hand h).view = e.view := by
  simp [Ev.view, p]

@[simp] theorem view_handAll (e : Ev) (hs : List Handoff) (p : hs.all Handoff.plain = true) :
    (e.handAll hs).view = e.view := by
  simp only [Ev.view, Ev.core_handAll, Ev.work_handAll, List.all_append, p, Bool.and_true]

@[simp] theorem view_handTwo (e : Ev) (a b : Handoff) (p : a.plain = true) (q : b.plain = true) :
    (e.handAll [a, b]).view = e.view := view_handAll _ _ (by simp only [List.all_cons, List.all_nil, p, q, Bool.and_true])

@[simp] theorem view_tell (e : Ev) (a : Announcement) : (e.tell a).view = e.view := rfl
@[simp] theorem view_note (e : Ev) (n : Notice) : (e.note n).view = e.view := rfl
@[simp] theorem view_tellOnce (e : Ev) (a : Announcement) : (e.tellOnce a).view = e.view := by
  unfold Ev.tellOnce; split <;> rfl

theorem view_mod (e : Ev) (f : Core → Core) (h : (f e.core).kept = e.core.kept) : (e.mod f).view = e.view := by
  simp [Ev.view, h]

theorem kept_modRow (c : Core) (r : Nat) (f : RowRec → RowRec) (h : ∀ x, (f x).kept = x.kept) :
    (c.modRow r f).kept = c.kept := by
  simp only [Core.kept, Core.modRow, map_upd _ _ _ _ h]

theorem kept_modRobot (c : Core) (i : Nat) (f : Robot → Robot) (h : ∀ x, (f x).kept = x.kept) :
    (c.modRobot i f).kept = c.kept := by
  simp only [Core.kept, Core.modRobot, map_upd _ _ _ _ h]

@[simp] theorem view_modRow (e : Ev) (r : Nat) (f : RowRec → RowRec) (h : ∀ x, (f x).kept = x.kept) :
    (e.modRow r f).view = e.view := by simp [Ev.view, kept_modRow _ _ _ h]

@[simp] theorem view_modRobot (e : Ev) (i : Nat) (f : Robot → Robot) (h : ∀ x, (f x).kept = x.kept) :
    (e.modRobot i f).view = e.view := by simp [Ev.view, kept_modRobot _ _ _ h]

@[simp] theorem view_modSlot (e : Ev) (k : Nat) (f : Slot → Slot) : (e.modSlot k f).view = e.view := rfl
@[simp] theorem view_modCarriage (e : Ev) (f : Carriage → Carriage) : (e.modCarriage f).view = e.view := rfl

/-- A zone that parks may be secured or not: nothing of the kept core changes. -/
theorem view_secureZone (e : Ev) (z : Nat) (s : ZoneState) (hs : s ≠ .clear) (hz : (e.core.zone z).state ≠ .clear) :
    (e.mod (fun c => c.modZone z (fun x => { x with state := s }))).view = e.view := by
  apply view_mod
  simp only [Core.kept, Core.modZone]
  congr 1
  apply map_upd_at _ _ _ _ {}
  simp only [ZoneRec.kept, ZoneRec.mk.injEq, true_and]
  simp only [Core.zone] at hz
  rw [if_neg hs, if_neg hz]

theorem view_each {α : Type} (e : Ev) (xs : List α) (f : α → Ev → Ev) (h : ∀ x e, (f x e).view = e.view) :
    (e.each xs f).view = e.view := by
  unfold Ev.each
  induction xs generalizing e with
  | nil => rfl
  | cons x xs ih => simp only [List.foldl_cons, ih, h]

@[simp] theorem view_order (e : Ev) (i : Nat) (o : Order) (row : Option Nat) : (e.order i o row).view = e.view := by
  simp (disch := (intros; rfl)) [Ev.order]

@[simp] theorem view_orderHere (e : Ev) (i : Nat) (o : Order) : (e.orderHere i o).view = e.view := view_order ..

/-! ### The Permit Controller -/

@[simp] theorem plain_handChange (x : RowRec) (r : Nat) : (x.handChange r).all Handoff.plain = true := by
  unfold RowRec.handChange; split <;> rfl

@[simp] theorem plain_hand (o : Origin) (f : Nat → Handoff) (h : ∀ k, (f k).plain = true) :
    (o.hand f).all Handoff.plain = true := by
  cases o <;> simp [Origin.hand, h]

@[simp] theorem view_setPermit (e : Ev) (r : Nat) (p : Permit) : (e.setPermit r p).view = e.view := by
  have k : ∀ x : RowRec, (x.withPermit p).kept = x.kept := fun _ => rfl
  unfold Ev.setPermit
  rw [view_handAll _ _ (plain_handChange ..), view_tell, view_modRow _ _ _ k]

@[simp] theorem view_failEntry (e : Ev) (r : Nat) (x : FailReason) : (e.failEntry r x).view = e.view := by
  unfold Ev.failEntry; split
  · rfl
  · rw [view_handAll _ _ (plain_hand _ _ (fun _ => rfl)), view_note]; exact view_modRow _ _ _ (fun _ => rfl)

@[simp] theorem view_grantEntry (e : Ev) (r i : Nat) (o : Origin) : (e.grantEntry r i o).view = e.view := by
  unfold Ev.grantEntry; rw [view_handAll _ _ (plain_hand _ _ (fun _ => rfl)), view_note]

@[simp] theorem view_stopTimers (e : Ev) (r : Nat) : (e.stopTimers r).view = e.view := by
  simp (disch := (intros; rfl)) [Ev.stopTimers]

@[simp] theorem view_toGuardOut (e : Ev) (r : Nat) : (e.toGuardOut r).view = e.view := by
  simp (disch := (intros; rfl)) [Ev.toGuardOut]

@[simp] theorem view_takeEntry (e : Ev) (o : Origin) (i r : Nat) : (e.takeEntry o i r).2.view = e.view := by
  unfold Ev.takeEntry; dsimp only; split <;> simp (disch := (intros; rfl))

@[simp] theorem view_entryRequest (e : Ev) (l : Link) (o : Origin) (i r : Nat) :
    (e.entryRequest l o i r).2.view = e.view := by
  unfold Ev.entryRequest; split <;> simp (disch := (intros; rfl))

@[simp] theorem view_breachFound (e : Ev) (r : Nat) : (e.breachFound r).view = e.view := by
  unfold Ev.breachFound; dsimp only; split
  · rfl
  · rw [view_each _ _ _ (fun _ _ => view_orderHere ..)]; simp (disch := (intros; rfl))

@[simp] theorem view_breachEnded (e : Ev) (r : Nat) : (e.breachEnded r).view = e.view := by
  unfold Ev.breachEnded; dsimp only; split <;> simp (disch := (intros; rfl))

@[simp] theorem view_intrude (e : Ev) (r i : Nat) (b : Bool) : (e.intrude r i b).view = e.view := by
  unfold Ev.intrude; dsimp only
  repeat' split
  all_goals simp (disch := (intros; rfl))

@[simp] theorem view_intrudeStow (e : Ev) (r i : Nat) : (e.intrudeStow r i).view = e.view := by
  simp (disch := (intros; rfl)) [Ev.intrudeStow]

@[simp] theorem view_panelsEntered (e : Ev) (r i : Nat) : (e.panelsEntered r i).view = e.view := by
  unfold Ev.panelsEntered; dsimp only; repeat' split
  all_goals simp (disch := (intros; rfl))

@[simp] theorem view_decideStow (e : Ev) (r : Nat) : (e.decideStow r).view = e.view := by
  unfold Ev.decideStow; repeat' split
  all_goals simp (disch := (intros; rfl))

@[simp] theorem view_panelsEmptied (e : Ev) (r : Nat) : (e.panelsEmptied r).view = e.view := by
  unfold Ev.panelsEmptied; dsimp only; repeat' split
  all_goals simp (disch := (intros; rfl))

@[simp] theorem view_anchorSet (e : Ev) (r : Nat) : (e.anchorSet r).view = e.view := by
  unfold Ev.anchorSet; split <;> simp (disch := (intros; rfl))

@[simp] theorem view_anchorReleased (e : Ev) (r i : Nat) : (e.anchorReleased r i).view = e.view := by
  unfold Ev.anchorReleased; split <;> simp (disch := (intros; rfl))

@[simp] theorem view_dropEntry (e : Ev) (r : Nat) (x : FailReason) : (e.dropEntry r x).view = e.view := by
  unfold Ev.dropEntry; dsimp only; repeat' split
  all_goals simp (disch := (intros; rfl))

@[simp] theorem view_stationLeft (e : Ev) (r i : Nat) : (e.stationLeft r i).view = e.view := by
  unfold Ev.stationLeft; split <;> simp (disch := (intros; rfl))

@[simp] theorem view_withdrawEntries (e : Ev) (k : Nat) : (e.withdrawEntries k).view = e.view :=
  view_each _ _ _ (fun _ _ => view_dropEntry ..)

@[simp] theorem view_parkRow (r : Nat) (e : Ev) : (Ev.parkRow r e).view = e.view := by
  unfold Ev.parkRow; repeat' split
  all_goals simp (disch := (intros; rfl))

@[simp] theorem view_permitZoneParked (e : Ev) (z : Nat) : (e.permitZoneParked z).view = e.view := by
  unfold Ev.permitZoneParked; split
  · exact view_each _ _ _ (fun _ _ => view_parkRow ..)
  · rfl

@[simp] theorem view_permitZoneCleared (e : Ev) (z : Nat) : (e.permitZoneCleared z).view = e.view := by
  unfold Ev.permitZoneCleared; split
  · exact view_each _ _ _ (fun _ _ => view_decideStow ..)
  · rfl

@[simp] theorem view_stowOver (e : Ev) (r : Nat) : (e.stowOver r).view = e.view := by
  unfold Ev.stowOver; split <;> simp (disch := (intros; rfl))

/-! ### The Carriage Arbiter -/

@[simp] theorem view_sayCarriage (e : Ev) : e.sayCarriage.view = e.view := rfl

@[simp] theorem view_evalThrottle (e : Ev) : e.evalThrottle.view = e.view := by
  unfold Ev.evalThrottle; dsimp only; repeat' split
  all_goals simp (disch := (intros; rfl))

@[simp] theorem view_setInbound (e : Ev) (r : Nat) (i : Option Nat) : (e.setInbound r i).view = e.view := by
  simp (disch := (intros; rfl)) [Ev.setInbound]

@[simp] theorem view_handEnd (e : Ev) (t : Transfer) (o : TransferOutcome) : (e.handEnd t o).view = e.view := by
  unfold Ev.handEnd; repeat' split
  all_goals simp (disch := (intros; rfl))

@[simp] theorem view_unqueue (e : Ev) (t : Transfer) : (e.unqueue t).view = e.view := by simp (disch := (intros; rfl)) [Ev.unqueue]

@[simp] theorem view_removeEntry (e : Ev) (t : Transfer) (o : TransferOutcome) : (e.removeEntry t o).view = e.view := by
  simp (disch := (intros; rfl)) [Ev.removeEntry]

@[simp] theorem view_grantTransfer (e : Ev) (t : Transfer) : (e.grantTransfer t).view = e.view := by
  simp (disch := (intros; rfl)) [Ev.grantTransfer]

@[simp] theorem view_consider (e : Ev) (ts : List Transfer) : (e.consider ts).view = e.view := by
  induction ts generalizing e with
  | nil => rfl
  | cons t ts ih =>
      unfold Ev.consider; repeat' split
      all_goals simp (disch := (intros; rfl)) [ih]

@[simp] theorem view_grantConsideration (e : Ev) : e.grantConsideration.view = e.view := by
  unfold Ev.grantConsideration; split <;> simp (disch := (intros; rfl))

@[simp] theorem view_transferRequest (e : Ev) (l : Link) (cls : TransferClass) (k : Option Nat) (i r : Nat) :
    (e.transferRequest l cls k i r).2.view = e.view := by
  unfold Ev.transferRequest; split <;> simp (disch := (intros; rfl))

@[simp] theorem view_withdrawTransfer (e : Ev) (k : Nat) : (e.withdrawTransfer k).view = e.view := by
  unfold Ev.withdrawTransfer; split <;> simp (disch := (intros; rfl))

@[simp] theorem view_freeCarriage (e : Ev) (t : Transfer) (o : TransferOutcome) (d : Option Nat) :
    (e.freeCarriage t o d).view = e.view := by
  simp (disch := (intros; rfl)) [Ev.freeCarriage]

@[simp] theorem view_faultCarriage (e : Ev) (t : Transfer) (o : TransferOutcome) :
    (e.faultCarriage t o).view = e.view := by
  simp (disch := (intros; rfl)) [Ev.faultCarriage]

@[simp] theorem view_cancelActive (e : Ev) (t : Transfer) : (e.cancelActive t).view = e.view := by
  unfold Ev.cancelActive; split <;> simp (disch := (intros; rfl))

@[simp] theorem view_queuedMoved (e : Ev) (i : Nat) : (e.queuedMoved i).view = e.view := by
  unfold Ev.queuedMoved; split <;> simp (disch := (intros; rfl))

@[simp] theorem view_carriagePlace (e : Ev) (i : Nat) : (e.carriagePlace i).view = e.view := by
  unfold Ev.carriagePlace; dsimp only; repeat' split
  all_goals simp (disch := (intros; rfl))

@[simp] theorem view_stationTaken (e : Ev) (r i : Nat) : (e.stationTaken r i).view = e.view := by
  unfold Ev.stationTaken; dsimp only; repeat' split
  all_goals simp (disch := (intros; rfl))

@[simp] theorem view_carriageLost (e : Ev) (i : Nat) : (e.carriageLost i).view = e.view := by
  unfold Ev.carriageLost; dsimp only; repeat' split
  all_goals simp (disch := (intros; rfl))

@[simp] theorem view_carriageZoneParked (e : Ev) (z : Nat) : (e.carriageZoneParked z).view = e.view := by
  have h : ∀ (t : Transfer) (e : Ev), (((e.unqueue t).note (.transferEnd t.body .cancelled)).handEnd t .cancelled).view
      = e.view := by intro t e; simp
  unfold Ev.carriageZoneParked; dsimp only; repeat' split
  all_goals simp (disch := (intros; rfl)) [view_each _ _ _ h]

@[simp] theorem view_carriageZoneCleared (e : Ev) (z : Nat) : (e.carriageZoneCleared z).view = e.view := by
  unfold Ev.carriageZoneCleared; dsimp only; split <;> simp (disch := (intros; rfl))

/-! ### The Round Engine -/

@[simp] theorem view_sayRound (e : Ev) (k : Nat) : (e.sayRound k).view = e.view := view_tellOnce ..

@[simp] theorem view_releaseClaim (e : Ev) (k r : Nat) : (e.releaseClaim k r).view = e.view := by
  simp (disch := (intros; rfl)) [Ev.releaseClaim]

@[simp] theorem view_endSlot (e : Ev) (k : Nat) (x : EndReason) : (e.endSlot k x).view = e.view := by
  unfold Ev.endSlot; dsimp only; repeat' split
  all_goals simp (disch := (intros; rfl))

theorem view_toSlot (e : Ev) (k : Nat) (f : Slot → Ev) (h : ∀ s, (f s).view = e.view) : (e.toSlot k f).view = e.view := by
  unfold Ev.toSlot; dsimp only; repeat' split
  all_goals simp (disch := (intros; rfl)) [h]

@[simp] theorem view_claimRow (e : Ev) (k r : Nat) (x : SlotState) : (e.claimRow k r x).view = e.view := by
  simp (disch := (intros; rfl)) [Ev.claimRow]

@[simp] theorem view_takeCandidates (n k : Nat) (e : Ev) : (Ev.takeCandidates n k e).view = e.view := by
  induction n generalizing e with
  | zero => rfl
  | succ n ih =>
      unfold Ev.takeCandidates; dsimp only; repeat' split
      all_goals simp (disch := (intros; rfl)) [ih]

@[simp] theorem view_chooseRow (e : Ev) (k : Nat) : (e.chooseRow k).view = e.view := by
  apply view_toSlot; intro s; repeat' split
  all_goals simp (disch := (intros; rfl))

@[simp] theorem view_suspend (e : Ev) (k : Nat) : (e.suspend k).view = e.view := by simp (disch := (intros; rfl)) [Ev.suspend]

@[simp] theorem view_failRow (e : Ev) (k : Nat) : (e.failRow k).view = e.view := by
  unfold Ev.failRow; dsimp only; repeat' split
  all_goals simp (disch := (intros; rfl))

@[simp] theorem view_setPhase (e : Ev) (k r : Nat) (p : RowPhase) : (e.setPhase k r p).view = e.view := by
  simp (disch := (intros; rfl)) [Ev.setPhase]

@[simp] theorem view_goRow (e : Ev) (k r : Nat) : (e.goRow k r).view = e.view := by
  unfold Ev.goRow; dsimp only; split <;> simp (disch := (intros; rfl))

@[simp] theorem view_issueEntry (e : Ev) (k r : Nat) : (e.issueEntry k r).view = e.view := by
  unfold Ev.issueEntry; dsimp only; repeat' split
  all_goals simp (disch := (intros; rfl))

@[simp] theorem view_waitEntry (e : Ev) (k r : Nat) : (e.waitEntry k r).view = e.view := by simp (disch := (intros; rfl)) [Ev.waitEntry]

@[simp] theorem view_submitTransfer (e : Ev) (k r i : Nat) : (e.submitTransfer k r i).view = e.view := by
  unfold Ev.submitTransfer; dsimp only; repeat' split
  all_goals simp (disch := (intros; rfl))

@[simp] theorem view_seekingTest (e : Ev) (k : Nat) : (e.seekingTest k).view = e.view := by
  apply view_toSlot; intro s; dsimp only; repeat' split
  all_goals simp (disch := (intros; rfl))

@[simp] theorem view_resumeTest (e : Ev) (k : Nat) : (e.resumeTest k).view = e.view := by
  apply view_toSlot; intro s; dsimp only; repeat' split
  all_goals simp (disch := (intros; rfl))

@[simp] theorem view_roundPlace (e : Ev) (i : Nat) : (e.roundPlace i).view = e.view := by
  unfold Ev.roundPlace; split
  · rfl
  · apply view_toSlot; intro s; repeat' split
    all_goals simp (disch := (intros; rfl))

@[simp] theorem view_roundLost (e : Ev) (i : Nat) : (e.roundLost i).view = e.view := by
  unfold Ev.roundLost; split
  · rfl
  · apply view_toSlot; intro s; split <;> simp (disch := (intros; rfl))

@[simp] theorem view_roundPass (e : Ev) (i r : Nat) : (e.roundPass i r).view = e.view := by
  unfold Ev.roundPass; split
  · rfl
  · apply view_toSlot; intro s; dsimp only; repeat' split
    all_goals simp (disch := (intros; rfl))

@[simp] theorem view_entryGranted (e : Ev) (k r : Nat) : (e.entryGranted k r).view = e.view := by
  apply view_toSlot; intro s; split <;> simp (disch := (intros; rfl))

@[simp] theorem view_entryFailed (e : Ev) (k r : Nat) : (e.entryFailed k r).view = e.view := by
  apply view_toSlot; intro s; split <;> simp (disch := (intros; rfl))

@[simp] theorem view_permitChanged (e : Ev) (r : Nat) : (e.permitChanged r).view = e.view := by
  unfold Ev.permitChanged; split
  · rfl
  · apply view_toSlot; intro s; split <;> simp (disch := (intros; rfl))

@[simp] theorem view_censusEnded (e : Ev) : e.censusEnded.view = e.view := by
  apply view_each; intro k e; split
  · apply view_toSlot; intro s; split <;> simp (disch := (intros; rfl))
  · rfl

@[simp] theorem view_transferEnded (e : Ev) (k i r : Nat) (o : TransferOutcome) :
    (e.transferEnded k i r o).view = e.view := by
  unfold Ev.transferEnded; split
  · rfl
  · apply view_toSlot; intro s; repeat' split
    all_goals simp (disch := (intros; rfl))

@[simp] theorem view_serviceEnded (e : Ev) (i : Nat) : (e.serviceEnded i).view = e.view := by
  unfold Ev.serviceEnded; split <;> simp (disch := (intros; rfl))

@[simp] theorem view_throttleCleared (e : Ev) : e.throttleCleared.view = e.view := by
  apply view_handAll; simp (disch := (intros; rfl))

@[simp] theorem view_evalTrigger (e : Ev) (k : Nat) : (e.evalTrigger k).view = e.view := by
  apply view_toSlot; intro s; repeat' split
  all_goals simp (disch := (intros; rfl))

@[simp] theorem view_evalTriggers (e : Ev) : e.evalTriggers.view = e.view := by
  apply view_handAll; simp (disch := (intros; rfl))

@[simp] theorem view_roundZoneParked (e : Ev) (z : Nat) : (e.roundZoneParked z).view = e.view := by
  apply view_each; intro k e; dsimp only; split <;> simp (disch := (intros; rfl))

@[simp] theorem view_roundZoneCleared (e : Ev) : e.roundZoneCleared.view = e.view := by
  apply view_handAll; simp (disch := (intros; rfl))

/-! ### The Park Controller -/

@[simp] theorem view_zoneOrders (e : Ev) (z : Nat) : (e.zoneOrders z).view = e.view := by
  apply view_each; intro i e; split <;> simp (disch := (intros; rfl))

@[simp] theorem view_standingOrders (e : Ev) (z : Nat) (c0 : Core) : (e.standingOrders z c0).view = e.view := by
  apply view_each; intro i e; repeat' split
  all_goals simp (disch := (intros; rfl))

@[simp] theorem view_resumeRobot (i : Nat) (e : Ev) : (Ev.resumeRobot i e).view = e.view := by
  unfold Ev.resumeRobot; split <;> simp (disch := (intros; rfl))

@[simp] theorem view_zoneResume (e : Ev) (z : Nat) : (e.zoneResume z).view = e.view :=
  view_each _ _ _ (fun _ _ => view_resumeRobot ..)

@[simp] theorem view_stowGrants (e : Ev) (z : Nat) : (e.stowGrants z).view = e.view :=
  view_each _ _ _ (fun _ _ => view_stowOver ..)

@[simp] theorem view_forcedTimers (e : Ev) (z : Nat) : (e.forcedTimers z).view = e.view := by
  unfold Ev.forcedTimers; split
  · apply view_each; intro r e; simp (disch := (intros; rfl))
  · rfl

@[simp] theorem view_zoneState (e : Ev) (z : Nat) : (e.zoneState z).view = e.view := by
  have h : ∀ s : ZoneState, s ≠ .clear → (e.core.zone z).state ≠ .clear →
      ((e.mod (fun c => c.modZone z (fun x => { x with state := s }))).tellOnce (.zoneState z)).view = e.view :=
    fun s hs hz => by rw [view_tellOnce, view_secureZone _ _ _ hs hz]
  unfold Ev.zoneState; dsimp only
  repeat' split
  all_goals first
    | rfl
    | (rename_i g; exact h _ (by simp) (fun q => g (.inl q)))

@[simp] theorem view_zoneTest (e : Ev) (z : Nat) (c0 : Core) : (e.zoneTest z c0).view = e.view := by
  unfold Ev.zoneTest; split <;> simp (disch := (intros; rfl))

@[simp] theorem view_stopForced (e : Ev) (z : Nat) : (e.stopForced z).view = e.view := by
  apply view_each; intro r e; simp (disch := (intros; rfl))

@[simp] theorem view_announce (e : Ev) (ns : List Notice) : (ns.foldl Ev.note e).view = e.view := by
  induction ns generalizing e with
  | nil => rfl
  | cons n ns ih => simp only [List.foldl_cons, ih, view_note]

/-! ### Whole events -/

/-- A plain hand-off changes nothing of the kept core, and hands on plain hand-offs only. -/
theorem view_handle (e : Ev) (h : Handoff) (p : h.plain = true) : (e.handle h).view = e.view := by
  cases h <;> first | (simp (disch := (intros; rfl)) at p; done) | simp (disch := (intros; rfl)) [Ev.handle]

/-- The settling hand-offs are plain. -/
theorem plain_of_settles (h : Handoff) (s : h.settles = true) : h.plain = true := by
  cases h <;> first | rfl | exact s

/-- Settling hand-offs delivered together change nothing of the kept core, and hand on plain hand-offs only. -/
theorem view_settle (e : Ev) (p : e.work.all Handoff.plain = true) : e.settle.view = e.view := by
  have step : ∀ (hs : List Handoff) (e : Ev), (∀ h ∈ hs, h.settles = true) → (hs.foldl Ev.handle e).view = e.view := by
    intro hs
    induction hs with
    | nil => intro e _; rfl
    | cons h hs ih =>
        intro e s
        rw [List.foldl_cons, ih _ (fun g m => s g (List.mem_cons_of_mem _ m)),
          view_handle _ _ (plain_of_settles h (s h List.mem_cons_self))]
  have v := step (e.work.takeWhile Handoff.settles) { e with work := [] } (List.all_eq_true.mp List.all_takeWhile)
  have q : (e.work.dropWhile Handoff.settles).all Handoff.plain = true :=
    List.all_eq_true.mpr (fun h m => List.all_eq_true.mp p h (List.dropWhile_sublist _ |>.subset m))
  simp only [Ev.view, Prod.mk.injEq, List.all_nil] at v
  simp only [Ev.view, Ev.settle, List.all_append, v.1, v.2, q, p, Bool.and_self]

theorem work_drain (n : Nat) (e : Ev) : (e.drain n).work = [] := by
  induction n generalizing e with
  | zero => rfl
  | succ n ih =>
      have step : ∀ (hs : List Handoff) (e : Ev), e.work = [] →
          (hs.foldl (fun e h => Ev.drain n (Ev.handle e h)) e).work = [] := by
        intro hs
        induction hs with
        | nil => intro e w; exact w
        | cons h hs ihs => intro e _; exact ihs _ (ih _)
      exact step e.settle.work { e.settle with work := [] } rfl

/-- An event whose hand-offs are all plain changes nothing of the kept core while it delivers them. -/
theorem kept_drain (n : Nat) (e : Ev) (p : e.work.all Handoff.plain = true) : (e.drain n).core.kept = e.core.kept := by
  induction n generalizing e with
  | zero => rfl
  | succ n ih =>
      have step : ∀ (hs : List Handoff) (e : Ev), hs.all Handoff.plain = true → e.work = [] →
          (hs.foldl (fun e h => Ev.drain n (Ev.handle e h)) e).core.kept = e.core.kept := by
        intro hs
        induction hs with
        | nil => intro e _ _; rfl
        | cons h hs ihs =>
            intro e p w
            simp only [List.all_cons, Bool.and_eq_true] at p
            have v := view_handle e h p.1
            simp only [Ev.view, w, Prod.mk.injEq, List.all_nil] at v
            rw [List.foldl_cons, ihs _ p.2 (work_drain n _), ih _ v.2, v.1]
      have v := view_settle e p
      simp only [Ev.view, Prod.mk.injEq] at v
      exact (step e.settle.work { e.settle with work := [] } (v.2.trans p) rfl).trans v.1

/-- Delivering plain hand-offs changes nothing of the kept core. -/
theorem kept_deliver (e : Ev) (p : e.work.all Handoff.plain = true) : e.deliver.core.kept = e.core.kept :=
  kept_drain _ e p

@[simp] theorem work_each_nil {α : Type} (e : Ev) (xs : List α) (f : α → Ev → Ev) (w : e.work.all Handoff.plain = true)
    (h : ∀ x e, (f x e).view = e.view) : (e.each xs f).work.all Handoff.plain = true := by
  have v := view_each e xs f h
  simp only [Ev.view, Prod.mk.injEq] at v
  rw [v.2, w]

/-- The zone tests and the RESUME orders at the end of an event change nothing of the kept core. -/
theorem kept_endTests (e : Ev) (c0 : Core) (w : e.work = []) : (e.endTests c0).core.kept = e.core.kept := by
  have step : ∀ (zs : List Nat) (e : Ev), e.work = [] →
      (zs.foldl (fun e z => if touched c0 e.core z then (e.zoneTest z c0).deliver else e) e).core.kept
        = e.core.kept
      ∧ (zs.foldl (fun e z => if touched c0 e.core z then (e.zoneTest z c0).deliver else e) e).work
        = [] := by
    intro zs
    induction zs with
    | nil => intro e w; exact ⟨rfl, w⟩
    | cons z zs ih =>
        intro e w
        rw [List.foldl_cons]
        split
        · have v := view_zoneTest e z c0
          simp only [Ev.view, w, Prod.mk.injEq, List.all_nil] at v
          have k := ih _ (work_drain Config.handoffDepth (e.zoneTest z c0))
          exact ⟨k.1.trans ((kept_drain _ _ v.2).trans v.1), k.2⟩
        · exact ih e w
  have k := step zoneNumbers e w
  unfold Ev.endTests
  have v := view_each (e.each zoneNumbers fun z e =>
      if touched c0 e.core z then (e.zoneTest z c0).deliver else e)
    (leftParked c0 (e.each zoneNumbers fun z e =>
      if touched c0 e.core z then (e.zoneTest z c0).deliver else e).core) Ev.resumeRobot
    (fun _ _ => view_resumeRobot ..)
  simp only [Ev.view, Prod.mk.injEq] at v
  exact v.1.trans k.1

/-- What an event leaves alone that hands on plain hand-offs only: nothing of the kept core changes after its own
effects, but PARK_OUT, which follows the zones. -/
theorem kept_finish (p : Part) (e : Ev) (w : e.work.all Handoff.plain = true) :
    (p.finish e).core.kept = { e.core.kept with parkOut := (p.finish e).core.parkOut } := by
  have k : (e.deliver.endTests p.core).core.kept = e.core.kept :=
    (kept_endTests _ _ (work_drain _ _)).trans (kept_deliver e w)
  rw [← k]
  rfl

end Sys2Proof.Machine
end

