-- ==== Sys2Proof/Laws/Quiet.lean ====
section
/-! SUPPORT. An event that hands nothing on and that no zone test follows: its end is its core, its notices admitted, and
the pins following. -/

namespace Sys2Proof.Machine

/-- The change from one core to another that calls for no zone test (R138): zones, hazards, settings, the places of the
robots and of the carriage are the same, and a permit differs only in a CLEAR zone. -/
structure Core.Calm (c0 c : Core) : Prop where
  zones : c.zones = c0.zones
  hazards : c.hazards = c0.hazards
  cfg : c.cfg = c0.cfg
  robots : ∀ i, (c.robot i).state = (c0.robot i).state ∧ (c.robot i).row = (c0.robot i).row
    ∧ (c.robot i).onPanelsAtLoss = (c0.robot i).onPanelsAtLoss
  carriage : c.carriage.state = c0.carriage.state ∧ c.carriage.position = c0.carriage.position
  permits : ∀ r, (c.row r).permit ≠ (c0.row r).permit → c.rowClear r = true

theorem Core.Calm.refl (c : Core) : c.Calm c :=
  ⟨rfl, rfl, rfl, fun _ => ⟨rfl, rfl, rfl⟩, ⟨rfl, rfl⟩, fun _ h => absurd rfl h⟩

theorem Core.Calm.panelRow {c0 c : Core} (h : c0.Calm c) (i : Nat) : (c.robot i).panelRow = (c0.robot i).panelRow := by
  have r := h.robots i
  simp only [Robot.panelRow, r.1, r.2.1, r.2.2]

theorem Core.Calm.station {c0 c : Core} (h : c0.Calm c) (i : Nat) : (c.robot i).station = (c0.robot i).station := by
  have r := h.robots i
  simp only [Robot.station, r.1, r.2.1]

theorem Core.Calm.occupancy {c0 c : Core} (h : c0.Calm c) (r : Nat) : c.occupancy r = c0.occupancy r := by
  unfold Core.occupancy
  congr 1
  funext i
  rw [h.panelRow]

theorem Core.Calm.moved {c0 c : Core} (h : c0.Calm c) : movedRobots c0 c = [] := by
  unfold movedRobots
  apply List.filter_eq_nil_iff.mpr
  intro i _
  have r := h.robots i
  simp [r.1, r.2.1]

theorem Core.Calm.touched {c0 c : Core} (h : c0.Calm c) (z : Nat) : Machine.touched c0 c z = false := by
  unfold Machine.touched
  by_cases hz : c.zoneClear z = true
  · simp [hz]
  · have hlev : c0.zone z = c.zone z := by simp only [Core.zone, h.zones]
    have hhaz : ∀ k, c0.hazard k = c.hazard k := by intro k; cases k <;> simp only [Core.hazard, h.hazards]
    have hset : c0.zoneHazards z = c.zoneHazards z := by
      unfold Core.zoneHazards
      congr 1
      funext k
      rw [hhaz, h.cfg]
    have hrow : ∀ r ∈ c.zoneRows z, (c0.row r).permit = (c.row r).permit := by
      intro r hr
      apply Decidable.byContradiction
      intro q
      have q' := h.permits r (fun e => q e.symm)
      unfold Core.zoneRows at hr
      have e : c.zoneOf r = z := by simpa using (List.mem_filter.mp hr).2
      rw [Core.rowClear, e] at q'
      exact hz q'
    have hany : (c.zoneRows z).any (fun r =>
        decide ((c0.row r).permit ≠ (c.row r).permit) || decide (c0.occupancy r ≠ c.occupancy r)) = false := by
      apply List.any_eq_false.mpr
      intro r hr
      simp [hrow r hr, h.occupancy]
    rw [hany]
    simp [hlev, hset, h.moved, h.carriage.1, h.carriage.2]

theorem Core.Calm.leftParked {c0 c : Core} (h : c0.Calm c) : Machine.leftParked c0 c = [] := by
  simp [Machine.leftParked, h.moved]

theorem deliver_nil (e : Ev) (w : e.work = []) : e.deliver = e := by
  have h : Config.handoffDepth = 9999 + 1 := rfl
  unfold Ev.deliver
  rw [h]
  show e.settle.work.foldl _ { e.settle with work := [] } = e
  rw [settle_none e (by rw [w]; rfl), w, List.foldl_nil]
  cases e
  simp_all

theorem endTests_calm (e : Ev) (c0 : Core) (h : c0.Calm e.core) : e.endTests c0 = e := by
  have step : ∀ zs : List Nat,
      zs.foldl (fun e z => if Machine.touched c0 e.core z then (e.zoneTest z c0).deliver else e) e
        = e := by
    intro zs
    induction zs with
    | nil => rfl
    | cons z zs ih => rw [List.foldl_cons, h.touched, if_neg (by simp), ih]
  unfold Ev.endTests
  simp only [Ev.each, step, h.leftParked, List.foldl_nil]

/-- The end of an event that hands nothing on and calls for no zone test. -/
theorem finish_calm (p : Part) (e : Ev) (w : e.work = []) (h : p.core.Calm e.core) :
    p.finish e = Part.drivePins
      ⟨(e.out.map e.core.render).foldl (fun u n => u.deliver e.core.cfg n) p.liu, e.core⟩ := by
  unfold Part.finish
  simp only [deliver_nil e w, endTests_calm e _ h, Liu.flush, List.foldl_map]

end Sys2Proof.Machine
end

