-- ==== Sys2Proof/Laws/Requests.lean ====
section
/-! SUPPORT. A request from its command to its reply: the dispatch of R175 once for all 38 requests, and what a request
that passes it does. -/

namespace Sys2Proof.Machine

/-- A request command is its request. -/
theorem exec_request (i : Instr) (l : Link) (q : Request) (h : requestOf i = some (l, q)) (s : State) :
    exec i s = .next (s.request l q) := by
  cases i <;> simp only [requestOf, reduceCtorEq, Option.some.injEq, Prod.mk.injEq] at h
  all_goals obtain ⟨rfl, rfl⟩ := h; rfl

/-- A request that the dispatch refuses is answered, and nothing else changes. -/
theorem State.request_refused (s : State) (l : Link) (q : Request) (x : Result) (hs : s.part.core.serving = true)
    (h : s.part.core.refusal l q.type (some q) = some x) : s.request l q = s.answered l q.type (refuse x) := by
  simp only [State.request, hs, if_true, Part.request, Part.serveFrame, Part.serve, h, Part.answer, State.answered]

/-- A request that passes the dispatch is performed, and its reply built. -/
theorem State.request_performed (s : State) (l : Link) (q : Request) (hs : s.part.core.serving = true)
    (h : s.part.core.refusal l q.type (some q) = none) :
    s.request l q = (s.withPart (s.part.perform l q).2).answered l q.type (s.part.perform l q).1 := by
  simp only [State.request, hs, if_true, Part.request, Part.serveFrame, Part.serve, h, State.answered, State.withPart]

theorem Core.serving_run (c : Core) (h : c.phase = .run) : c.serving = true := by simp [Core.serving, h]

/-- The dispatch in RUN (R175). -/
theorem Core.refusal_run (c : Core) (l : Link) (q : Request) (h : c.phase = .run) (v : validOn q.type l = true)
    (m : Request.malformed q = false) (f : flagTested q.type = true → c.cfg.enabled l = true) :
    c.refusal l q.type (some q) = none := by
  simp only [Core.refusal, v, h, m, Option.all_some, ne_eq, not_true_eq_false, false_and, Bool.not_true, if_false,
    Bool.false_eq_true]
  cases hf : flagTested q.type <;> simp_all

/-- A request taken in RUN. -/
theorem State.request_run (s : State) (l : Link) (q : Request) (h : s.part.core.phase = .run)
    (v : validOn q.type l = true) (m : Request.malformed q = false)
    (f : flagTested q.type = true → s.part.core.cfg.enabled l = true) :
    s.request l q = (s.withPart (s.part.perform l q).2).answered l q.type (s.part.perform l q).1 :=
  s.request_performed l q (Core.serving_run _ h) (Core.refusal_run _ l q h v m f)

/-! ### The batch of a TRACKER REPORT -/

/-- A write between two entries is the CONFIG WRITE of the P-link (R46). -/
theorem Part.writeBetween_eq (p : Part) (item : Item) : p.writeBetween item = p.request .P (.configWrite item) := by
  simp only [Part.writeBetween, Part.request, Part.serveFrame, Part.serve, Request.type]
  cases p.core.refusal .P .configWrite (some (.configWrite item)) <;> rfl

/-- An entry with writes before it is those writes, and then the entry (R46). -/
theorem Part.batchEntry_before (n : BatchCounts) (p : Part) (x : TrackerEntry) :
    Part.batchEntry (n, p) x
      = Part.batchEntry (n, x.before.foldl Part.writeBetween p) { x with before := [] } := rfl

/-- An entry with no writes before it, which its decode refuses, is counted and changes nothing (R7). -/
theorem Part.batchEntry_refused (n : BatchCounts) (p : Part) (x : TrackerEntry) (a : Result) (b : x.before = [])
    (h : p.core.entryAnswer x.row = some a) : Part.batchEntry (n, p) x = (n.add x (some a), p) := by
  simp only [Part.batchEntry, b, List.foldl_nil, h]; rfl

/-- An entry with no writes before it, which its decode passes, is counted and applied (R7, R8). -/
theorem Part.batchEntry_passed (n : BatchCounts) (p : Part) (x : TrackerEntry) (b : x.before = [])
    (h : p.core.entryAnswer x.row = none) :
    Part.batchEntry (n, p) x = (n.add x none, p.finish (trackerEvent x p.core)) := by
  simp only [Part.batchEntry, b, List.foldl_nil, h]; rfl

/-- While the T-link is enabled, the decode of an entry is the decode of R44. -/
theorem Core.entryAnswer_eq (c : Core) (r : Nat) (h : c.cfg.linkT = true) : c.entryAnswer r = c.decode .T .report r := by
  simp [Core.entryAnswer, Core.decode, Settings.enabled, h]

/-- An event of the blocks that ends calmly. -/
theorem State.ends_calm (s : State) (e : Ev) (w : e.work = []) (h : s.part.core.Calm e.core) :
    s.ends e = s.told e.core (e.out.map e.core.render) := by
  simp only [State.ends, finish_calm s.part e w h, State.told]

end Sys2Proof.Machine
end

