-- ==== Sys2Proof/Laws/PerInstr.lean ====
section
/-! SUPPORT. The family `TypeCode`: the TYPE code of every request command reads back as its request's type and lies below
0x80, so that its reply's TYPE is the code with bit 7 set (R174, R175). -/

namespace Sys2Proof.Laws

/-- The code of a type reads back as the type and lies below 0x80. -/
theorem typeOf_codeOf (t : ReqType) :
    Machine.typeOf (Machine.codeOf t) = some t ∧ (Machine.codeOf t).toNat < 0x80
      ∧ Machine.replyType (Machine.codeOf t) = Machine.codeOf t + 0x80 := by
  cases t <;> decide

/-- What the family says of a command. -/
def TypeCode.Statement (i : Instr) : Prop :=
  ∀ l q, Machine.requestOf i = some (l, q) →
    Machine.typeOf (Machine.codeOf q.type) = some q.type ∧ (Machine.codeOf q.type).toNat < 0x80
      ∧ Machine.replyType (Machine.codeOf q.type) = Machine.codeOf q.type + 0x80

theorem TypeCode.fullReset (storeWriting : Bool) : TypeCode.Statement (.fullReset storeWriting) := fun _ q _ => typeOf_codeOf q.type
theorem TypeCode.vbatLoss : TypeCode.Statement (.vbatLoss) := fun _ q _ => typeOf_codeOf q.type
theorem TypeCode.loadEnd (found : MemoryRead) : TypeCode.Statement (.loadEnd found) := fun _ q _ => typeOf_codeOf q.type
theorem TypeCode.frameComplete (l : Link) (type tag : Byte) (body : List Byte) : TypeCode.Statement (.frameComplete l type tag body) := fun _ q _ => typeOf_codeOf q.type
theorem TypeCode.frameCrcError (l : Link) : TypeCode.Statement (.frameCrcError l) := fun _ q _ => typeOf_codeOf q.type
theorem TypeCode.interbyteGap (l : Link) : TypeCode.Statement (.interbyteGap l) := fun _ q _ => typeOf_codeOf q.type
theorem TypeCode.status (l : Link) : TypeCode.Statement (.status l) := fun _ q _ => typeOf_codeOf q.type
theorem TypeCode.fetchNotice (l : Link) : TypeCode.Statement (.fetchNotice l) := fun _ q _ => typeOf_codeOf q.type
theorem TypeCode.permitQuery (l : Link) (first count : Nat) (form : Coded QueryForm) : TypeCode.Statement (.permitQuery l first count form) := fun _ q _ => typeOf_codeOf q.type
theorem TypeCode.robotQuery (l : Link) (first count : Nat) : TypeCode.Statement (.robotQuery l first count) := fun _ q _ => typeOf_codeOf q.type
theorem TypeCode.carriageQuery (l : Link) : TypeCode.Statement (.carriageQuery l) := fun _ q _ => typeOf_codeOf q.type
theorem TypeCode.roundQuery (l : Link) : TypeCode.Statement (.roundQuery l) := fun _ q _ => typeOf_codeOf q.type
theorem TypeCode.zoneQuery (l : Link) : TypeCode.Statement (.zoneQuery l) := fun _ q _ => typeOf_codeOf q.type
theorem TypeCode.hazardQuery (l : Link) : TypeCode.Statement (.hazardQuery l) := fun _ q _ => typeOf_codeOf q.type
theorem TypeCode.trackerReport (l : Link) (count : Nat) (entries : List TrackerEntry) : TypeCode.Statement (.trackerReport l count entries) := fun _ q _ => typeOf_codeOf q.type
theorem TypeCode.trackerSilenceExpiry (row : Nat) : TypeCode.Statement (.trackerSilenceExpiry row) := fun _ q _ => typeOf_codeOf q.type
theorem TypeCode.censusExpiry : TypeCode.Statement (.censusExpiry) := fun _ q _ => typeOf_codeOf q.type
theorem TypeCode.entryRequest (l : Link) (robot row : Nat) : TypeCode.Statement (.entryRequest l robot row) := fun _ q _ => typeOf_codeOf q.type
theorem TypeCode.approachExpiry (row : Nat) : TypeCode.Statement (.approachExpiry row) := fun _ q _ => typeOf_codeOf q.type
theorem TypeCode.guardInExpiry (row : Nat) : TypeCode.Statement (.guardInExpiry row) := fun _ q _ => typeOf_codeOf q.type
theorem TypeCode.guardOutExpiry (row : Nat) : TypeCode.Statement (.guardOutExpiry row) := fun _ q _ => typeOf_codeOf q.type
theorem TypeCode.boardingExpiry (row : Nat) : TypeCode.Statement (.boardingExpiry row) := fun _ q _ => typeOf_codeOf q.type
theorem TypeCode.robotReport (l : Link) (robot : Nat) (place : Coded Place) (row : Nat) (position battery : Option Nat) : TypeCode.Statement (.robotReport l robot place row position battery) := fun _ q _ => typeOf_codeOf q.type
theorem TypeCode.passComplete (l : Link) (robot row : Nat) : TypeCode.Statement (.passComplete l robot row) := fun _ q _ => typeOf_codeOf q.type
theorem TypeCode.robotSilenceExpiry (robot : Nat) : TypeCode.Statement (.robotSilenceExpiry robot) := fun _ q _ => typeOf_codeOf q.type
theorem TypeCode.lostRelease (l : Link) (robot : Nat) : TypeCode.Statement (.lostRelease l robot) := fun _ q _ => typeOf_codeOf q.type
theorem TypeCode.carriageReport (l : Link) (position : Option Nat) : TypeCode.Statement (.carriageReport l position) := fun _ q _ => typeOf_codeOf q.type
theorem TypeCode.transferRequest (l : Link) (robot row : Nat) : TypeCode.Statement (.transferRequest l robot row) := fun _ q _ => typeOf_codeOf q.type
theorem TypeCode.transferTimerExpiry : TypeCode.Statement (.transferTimerExpiry) := fun _ q _ => typeOf_codeOf q.type
theorem TypeCode.carriageClear (l : Link) : TypeCode.Statement (.carriageClear l) := fun _ q _ => typeOf_codeOf q.type
theorem TypeCode.roundStart (l : Link) (slot robot : Nat) (spec : Coded RoundSpec) : TypeCode.Statement (.roundStart l slot robot spec) := fun _ q _ => typeOf_codeOf q.type
theorem TypeCode.roundPause (l : Link) (slot : Nat) : TypeCode.Statement (.roundPause l slot) := fun _ q _ => typeOf_codeOf q.type
theorem TypeCode.roundResume (l : Link) (slot : Nat) : TypeCode.Statement (.roundResume l slot) := fun _ q _ => typeOf_codeOf q.type
theorem TypeCode.roundAbort (l : Link) (slot : Nat) : TypeCode.Statement (.roundAbort l slot) := fun _ q _ => typeOf_codeOf q.type
theorem TypeCode.anemPulse (ch : Channel) : TypeCode.Statement (.anemPulse ch) := fun _ q _ => typeOf_codeOf q.type
theorem TypeCode.windEvaluation : TypeCode.Statement (.windEvaluation) := fun _ q _ => typeOf_codeOf q.type
theorem TypeCode.hazNSample (high : Bool) : TypeCode.Statement (.hazNSample high) := fun _ q _ => typeOf_codeOf q.type
theorem TypeCode.parkOrder (l : Link) (level : Coded Sev) : TypeCode.Statement (.parkOrder l level) := fun _ q _ => typeOf_codeOf q.type
theorem TypeCode.parkRelease (l : Link) : TypeCode.Statement (.parkRelease l) := fun _ q _ => typeOf_codeOf q.type
theorem TypeCode.stowAll (l : Link) : TypeCode.Statement (.stowAll l) := fun _ q _ => typeOf_codeOf q.type
theorem TypeCode.stowAllEnd (l : Link) : TypeCode.Statement (.stowAllEnd l) := fun _ q _ => typeOf_codeOf q.type
theorem TypeCode.hazardReviewBoundary : TypeCode.Statement (.hazardReviewBoundary) := fun _ q _ => typeOf_codeOf q.type
theorem TypeCode.hazardAck (l : Link) (h : Coded Hazard) : TypeCode.Statement (.hazardAck l h) := fun _ q _ => typeOf_codeOf q.type
theorem TypeCode.forcedStowExpiry (row : Nat) : TypeCode.Statement (.forcedStowExpiry row) := fun _ q _ => typeOf_codeOf q.type
theorem TypeCode.intervalReport (l : Link) (irradiation first count : Nat) (energies : List Nat) : TypeCode.Statement (.intervalReport l irradiation first count energies) := fun _ q _ => typeOf_codeOf q.type
theorem TypeCode.coeffWrite (l : Link) (form : Coded CoeffForm) : TypeCode.Statement (.coeffWrite l form) := fun _ q _ => typeOf_codeOf q.type
theorem TypeCode.coeffCommit (l : Link) : TypeCode.Statement (.coeffCommit l) := fun _ q _ => typeOf_codeOf q.type
theorem TypeCode.coeffRevoke (l : Link) : TypeCode.Statement (.coeffRevoke l) := fun _ q _ => typeOf_codeOf q.type
theorem TypeCode.coeffRead (l : Link) (set : Coded CoeffSetName) (first count : Nat) : TypeCode.Statement (.coeffRead l set first count) := fun _ q _ => typeOf_codeOf q.type
theorem TypeCode.accountRead (l : Link) (row : Nat) : TypeCode.Statement (.accountRead l row) := fun _ q _ => typeOf_codeOf q.type
theorem TypeCode.accountClear (l : Link) (row : Option Nat) : TypeCode.Statement (.accountClear l row) := fun _ q _ => typeOf_codeOf q.type
theorem TypeCode.windowTest (l : Link) (link : Coded Link) (row : Nat) : TypeCode.Statement (.windowTest l link row) := fun _ q _ => typeOf_codeOf q.type
theorem TypeCode.configWrite (l : Link) (item : Item) : TypeCode.Statement (.configWrite l item) := fun _ q _ => typeOf_codeOf q.type
theorem TypeCode.configRead (l : Link) (item : ItemRef) : TypeCode.Statement (.configRead l item) := fun _ q _ => typeOf_codeOf q.type
theorem TypeCode.configApply (l : Link) : TypeCode.Statement (.configApply l) := fun _ q _ => typeOf_codeOf q.type
theorem TypeCode.configSave (l : Link) : TypeCode.Statement (.configSave l) := fun _ q _ => typeOf_codeOf q.type
theorem TypeCode.saveComplete (readBackMatches : Bool) : TypeCode.Statement (.saveComplete readBackMatches) := fun _ q _ => typeOf_codeOf q.type
theorem TypeCode.saveTimeout : TypeCode.Statement (.saveTimeout) := fun _ q _ => typeOf_codeOf q.type
theorem TypeCode.restart (l : Link) : TypeCode.Statement (.restart l) := fun _ q _ => typeOf_codeOf q.type
theorem TypeCode.byteReceived (l : Link) (byte : Byte) : TypeCode.Statement (.byteReceived l byte) := fun _ q _ => typeOf_codeOf q.type
theorem TypeCode.stopBitMissing (l : Link) : TypeCode.Statement (.stopBitMissing l) := fun _ q _ => typeOf_codeOf q.type
theorem TypeCode.replySent (l : Link) : TypeCode.Statement (.replySent l) := fun _ q _ => typeOf_codeOf q.type
theorem TypeCode.resetRelease : TypeCode.Statement (.resetRelease) := fun _ q _ => typeOf_codeOf q.type
theorem TypeCode.mainPowerLoss (storeWriting : Bool) : TypeCode.Statement (.mainPowerLoss storeWriting) := fun _ q _ => typeOf_codeOf q.type

/-- The family's lemma for every command. -/
theorem TypeCode.all (i : Instr) : TypeCode.Statement i := fun _ q _ => typeOf_codeOf q.type

end Sys2Proof.Laws
end

