-- ==== Sys2Proof/Laws/Permits.lean ====
section
/-! SUPPORT. The shared operations of the Permit Controller, each said once: the core it leaves, the hand-offs it adds, the
notices it adds. -/

namespace Sys2Proof.Machine

/-- An event of the blocks in RUN. -/
theorem State.event_run (s : State) (f : Core → Ev) (h : s.part.core.phase = .run) :
    s.event f = s.ends (f s.part.core) := by
  simp [State.event, Core.serving_run _ h, State.ends]

/-- A change of one row record is calm when it leaves the permit alone or the row lies in a CLEAR zone. -/
theorem Core.calm_modRow (c : Core) (r : Nat) (f : RowRec → RowRec)
    (h : (f (c.row r)).permit ≠ (c.row r).permit → c.rowClear r = true) : c.Calm (c.modRow r f) := by
  refine ⟨rfl, rfl, rfl, fun _ => ⟨rfl, rfl, rfl⟩, ⟨rfl, rfl⟩, ?_⟩
  intro q hq
  rw [Core.row_modRow] at hq
  split at hq
  · rename_i e
    obtain ⟨rfl, _⟩ := e
    exact h hq
  · exact absurd rfl hq

/-- A field that an update of a row record leaves alone is the same in every row. -/
theorem Core.field_modRow {β : Type} (g : RowRec → β) (c : Core) (r q : Nat) (f : RowRec → RowRec)
    (h : ∀ x, g (f x) = g x) : g ((c.modRow r f).row q) = g (c.row q) := by
  rw [Core.row_modRow]
  split
  · exact h _
  · rfl

theorem setPermit_eq (e : Ev) (r : Nat) (p : Permit) :
    e.setPermit r p = ⟨e.core.modRow r (fun x => x.withPermit p), e.work ++ (e.core.row r).handChange r,
      e.out ++ [.permit r]⟩ := rfl

theorem failEntry_none (e : Ev) (r : Nat) (x : FailReason) (h : (e.core.row r).pending = none) :
    e.failEntry r x = e := by
  simp [Ev.failEntry, h]

theorem failEntry_some (e : Ev) (r : Nat) (p : PendingEntry) (x : FailReason) (h : (e.core.row r).pending = some p) :
    e.failEntry r x = ⟨e.core.modRow r (fun x => { x with pending := none }),
      e.work ++ p.origin.hand (.entryFailed · r), e.out ++ [.note (.entryFailed r p.robot p.origin x)]⟩ := by
  unfold Ev.failEntry
  rw [h]
  rfl

theorem grantEntry_eq (e : Ev) (r i : Nat) (o : Origin) :
    e.grantEntry r i o = ⟨e.core, e.work ++ o.hand (.entryGranted · r), e.out ++ [.note (.entryGrant r i o)]⟩ := rfl

theorem stopTimers_eq (e : Ev) (r : Nat) :
    e.stopTimers r = ⟨e.core.modRow r (fun x => { x with approach := none, guard := none, boarding := none }),
      e.work, e.out⟩ := rfl

theorem modRow_eq (e : Ev) (r : Nat) (f : RowRec → RowRec) : e.modRow r f = ⟨e.core.modRow r f, e.work, e.out⟩ := rfl

theorem toGuardOut_eq (e : Ev) (r : Nat) :
    e.toGuardOut r = ⟨e.core.modRow r (fun x => RowRec.withPermit { x with guard := some e.core.cfg.guard } .guardOut),
      e.work ++ (e.core.row r).handChange r, e.out ++ [.permit r]⟩ := by
  have h := Core.field_modRow RowRec.claim e.core r r (fun x => { x with guard := some e.core.cfg.guard }) (fun _ => rfl)
  simp only [Ev.toGuardOut, setPermit_eq, modRow_eq, RowRec.handChange, h, Core.modRow_modRow]

theorem start_eq (c : Core) : Ev.start c = ⟨c, [], []⟩ := rfl

/-- A row that holds anything but the reset record stands in the table. -/
theorem Core.row_lt_of {β : Type} (g : RowRec → β) (c : Core) (r : Nat) (h : g (c.row r) ≠ g {}) : r < 96 :=
  c.row_lt r (fun e => h (by rw [e]))

@[simp] theorem Core.rowClear_modRow (c : Core) (r q : Nat) (f : RowRec → RowRec) :
    (c.modRow r f).rowClear q = c.rowClear q := rfl
@[simp] theorem Core.occupancy_modRow (c : Core) (r q : Nat) (f : RowRec → RowRec) :
    (c.modRow r f).occupancy q = c.occupancy q := rfl
@[simp] theorem Core.inCensus_modRow (c : Core) (r : Nat) (f : RowRec → RowRec) :
    (c.modRow r f).inCensus = c.inCensus := rfl

end Sys2Proof.Machine
end

