-- ==== Sys2Proof/Laws/Tick.lean ====
section
/-! SUPPORT. The seconds tick (section 4.2, log entry 6): what counting its seconds changes, the three things an expiry can do,
and that the end of an event does not depend on whether the seconds were counted before it or in it. -/

namespace Sys2Proof.Machine

/-! ### Counting the seconds -/

@[simp] theorem tick_none : tick none = none := rfl
@[simp] theorem tick_some (n : Nat) : tick (some n) = some (n - 1) := rfl

@[simp] theorem Core.row_second (c : Core) (r : Nat) : c.second.row r = (c.row r).second := look_map c.rows {} RowRec.second r

@[simp] theorem Core.robot_second (c : Core) (i : Nat) : c.second.robot i = (c.robot i).second :=
  look_map c.robots {} Robot.second i

theorem Core.counted_ticked (c : Core) (h : c.ticked = true) : c.counted = c := by simp [Core.counted, h]

theorem Core.counted_due (c : Core) (h : c.ticked = false) : c.counted = { c.second with ticked := true } := by
  simp [Core.counted, h]

@[simp] theorem Core.counted_counted (c : Core) : c.counted.counted = c.counted := by
  cases h : c.ticked <;> simp [Core.counted, h]

@[simp] theorem Core.ticked_counted (c : Core) : c.counted.ticked = true := by cases h : c.ticked <;> simp [Core.counted, h]
@[simp] theorem Core.phase_counted (c : Core) : c.counted.phase = c.phase := by cases h : c.ticked <;> simp [Core.counted, h, Core.second]
@[simp] theorem Core.cfg_counted (c : Core) : c.counted.cfg = c.cfg := by cases h : c.ticked <;> simp [Core.counted, h, Core.second]
@[simp] theorem Core.zones_counted (c : Core) : c.counted.zones = c.zones := by cases h : c.ticked <;> simp [Core.counted, h, Core.second]
@[simp] theorem Core.hazards_counted (c : Core) : c.counted.hazards = c.hazards := by
  cases h : c.ticked <;> simp [Core.counted, h, Core.second]
@[simp] theorem Core.slots_counted (c : Core) : c.counted.slots = c.slots := by cases h : c.ticked <;> simp [Core.counted, h, Core.second]
@[simp] theorem Core.store_counted (c : Core) : c.counted.store = c.store := by cases h : c.ticked <;> simp [Core.counted, h, Core.second]

/-- Of the carriage the tick moves the timer alone. -/
theorem Core.carriage_counted (c : Core) :
    c.counted.carriage = { c.carriage with timer := if c.ticked then c.carriage.timer else tick c.carriage.timer } := by
  cases h : c.ticked <;> simp [Core.counted, h, Core.second]

/-- Of a row record the tick moves the report age and the timers alone. -/
theorem Core.row_counted (c : Core) (r : Nat) : c.counted.row r = if c.ticked then c.row r else (c.row r).second := by
  cases h : c.ticked
  · rw [Core.counted_due c h]; exact c.row_second r
  · rw [Core.counted_ticked c h]; rfl

@[simp] theorem Core.permit_counted (c : Core) (r : Nat) : (c.counted.row r).permit = (c.row r).permit := by
  rw [Core.row_counted]; split <;> rfl

/-- Of a robot record the tick moves the silence timer alone. -/
theorem Core.robot_counted (c : Core) (i : Nat) :
    c.counted.robot i = if c.ticked then c.robot i else (c.robot i).second := by
  cases h : c.ticked
  · rw [Core.counted_due c h]; exact c.robot_second i
  · rw [Core.counted_ticked c h]; rfl

/-- Counting the seconds of a tick calls for no zone test. -/
theorem Core.calm_counted (c : Core) : c.Calm c.counted where
  zones := c.zones_counted
  hazards := c.hazards_counted
  cfg := c.cfg_counted
  robots i := by rw [Core.robot_counted]; split <;> exact ⟨rfl, rfl, rfl⟩
  carriage := by rw [Core.carriage_counted]; exact ⟨rfl, rfl⟩
  permits r h := absurd (c.permit_counted r) h

/-! ### Expiries -/

/-- A timer that has run down expires at once. -/
theorem Core.atExpiry_now (c : Core) (timer : Core → Option Nat) (f : Core → Ev) (t : timer c = some 0) :
    c.atExpiry timer true f = f c := by simp [Core.atExpiry, t]

/-- A timer with a second left expires with the seconds of its tick, which no event has counted yet. -/
theorem Core.atExpiry_counts (c : Core) (timer : Core → Option Nat) (f : Core → Ev) (t : timer c = some 1)
    (s : timer c.counted = some 0) : c.atExpiry timer true f = f c.counted := by
  have e : expired (timer c) = false := by rw [t]; rfl
  simp [Core.atExpiry, e, s]

/-- A timer that is stopped or has more time left does not expire. -/
theorem Core.atExpiry_early (c : Core) (timer : Core → Option Nat) (met : Bool) (f : Core → Ev)
    (t : expired (timer c) = false) (s : expired (timer c.counted) = false) : c.atExpiry timer met f = Ev.start c := by
  simp [Core.atExpiry, t, s]

/-- An expiry whose other condition does not hold changes nothing. -/
theorem Core.atExpiry_unmet (c : Core) (timer : Core → Option Nat) (f : Core → Ev) :
    c.atExpiry timer false f = Ev.start c := by simp [Core.atExpiry]

/-! ### The end of an event (R138, R142) -/

/-- The tests at the end of an event see of its start what the tick does not change. -/
theorem endTests_counted (e : Ev) (c : Core) : e.endTests c.counted = e.endTests c := by
  have robots : ∀ i, (c.counted.robot i).state = (c.robot i).state ∧ (c.counted.robot i).row = (c.robot i).row
      ∧ (c.counted.robot i).onPanelsAtLoss = (c.robot i).onPanelsAtLoss := c.calm_counted.robots
  have moved : ∀ d : Core, movedRobots c.counted d = movedRobots c d := by
    intro d; simp only [movedRobots, robots]
  have zone : ∀ z, c.counted.zone z = c.zone z := by intro z; simp only [Core.zone, Core.zones_counted]
  have clear : ∀ z, c.counted.zoneClear z = c.zoneClear z := by intro z; simp only [Core.zoneClear, zone]
  have hazards : ∀ z, c.counted.zoneHazards z = c.zoneHazards z := by
    intro z
    have h : ∀ k, c.counted.hazard k = c.hazard k := by intro k; cases k <;> simp only [Core.hazard, Core.hazards_counted]
    simp only [Core.zoneHazards, h, Core.cfg_counted]
  have occupancy : ∀ r, c.counted.occupancy r = c.occupancy r := c.calm_counted.occupancy
  have belongs : ∀ i, c.counted.belongs i = c.belongs i := by
    intro i
    have zoneOf : c.counted.zoneOf = c.zoneOf := by funext r; simp only [Core.zoneOf, Core.cfg_counted]
    simp only [Core.belongs, c.calm_counted.station i, c.calm_counted.panelRow i, zoneOf]
  have carriage := c.calm_counted.carriage
  have again : ∀ (d : Core) l i o, c.counted.anchorAgain d l i o = c.anchorAgain d l i o := by
    intro d l i o; simp only [Core.anchorAgain, robots]
  have tests : ∀ (e : Ev) z, e.zoneTest z c.counted = e.zoneTest z c := by
    intro e z; simp only [Ev.zoneTest, Ev.standingOrders, moved, again]
  have touches : ∀ (d : Core) z, touched c.counted d z = touched c d z := by
    intro d z
    simp only [touched, zone, hazards, Core.permit_counted, occupancy, moved, belongs, carriage.1, carriage.2]
  have left : ∀ d : Core, leftParked c.counted d = leftParked c d := by
    intro d
    simp only [leftParked, moved, belongs]
    congr 1
    funext i
    congr 2
    funext z
    rw [clear]
  simp only [Ev.endTests, tests, touches, left]

/-- An event ends alike on a part whose seconds were counted before it. -/
theorem finish_counted (p : Part) (e : Ev) : ({ p with core := p.core.counted } : Part).finish e = p.finish e := by
  simp only [Part.finish, endTests_counted]

end Sys2Proof.Machine
end

