-- ==== Sys2Proof/Tests/Slice0.lean ====
section
/-! SUPPORT. Tests: ill-formed commands that WellFormed refuses, values the spec states, one step of the commands on small
states, and for each statement states and operands that meet its hypotheses. The expected results are read from the rule
named beside each test. -/

namespace Sys2Proof.Tests

open Sys2Proof.Machine

-- Each test waits for the one before: tests by kernel evaluation side by side take a thread each.
set_option Elab.async false

/-! ### Ill-formed commands -/

theorem test_wf_frame_body : (Instr.frameComplete .P 1 0 (List.replicate 249 0)).wf = false := by decide +kernel
theorem test_wf_permitQuery_first : (Instr.permitQuery .T 256 1 (some .detail)).wf = false := by decide
theorem test_wf_permitQuery_count : (Instr.permitQuery .T 0 256 (some .detail)).wf = false := by decide
theorem test_wf_robotQuery_first : (Instr.robotQuery .T 256 1).wf = false := by decide
theorem test_wf_robotQuery_count : (Instr.robotQuery .T 0 256).wf = false := by decide
theorem test_wf_trackerReport_count : (Instr.trackerReport .T 256 []).wf = false := by decide
theorem test_wf_trackerReport_row : (Instr.trackerReport .T 1 [⟨256, some .holding, 0, []⟩]).wf = false := by decide
theorem test_wf_trackerReport_angle_low : (Instr.trackerReport .T 1 [⟨0, some .holding, -32769, []⟩]).wf = false := by decide
theorem test_wf_trackerReport_angle_high : (Instr.trackerReport .T 1 [⟨0, some .holding, 32768, []⟩]).wf = false := by decide
theorem test_wf_trackerReport_before : (Instr.trackerReport .T 1 [⟨0, some .holding, 0, [.rowZone 256 0]⟩]).wf = false := by decide
theorem test_wf_entryRequest_robot : (Instr.entryRequest .F 256 0).wf = false := by decide
theorem test_wf_entryRequest_row : (Instr.entryRequest .F 0 256).wf = false := by decide
theorem test_wf_robotReport_robot : (Instr.robotReport .F 256 (some .atStation) 0 none none).wf = false := by decide
theorem test_wf_robotReport_row : (Instr.robotReport .F 0 (some .atStation) 256 none none).wf = false := by decide
theorem test_wf_robotReport_position : (Instr.robotReport .F 0 (some .atStation) 0 (some 65536) none).wf = false := by decide
theorem test_wf_robotReport_battery : (Instr.robotReport .F 0 (some .atStation) 0 none (some 256)).wf = false := by decide
theorem test_wf_passComplete_robot : (Instr.passComplete .F 256 0).wf = false := by decide
theorem test_wf_passComplete_row : (Instr.passComplete .F 0 256).wf = false := by decide
theorem test_wf_lostRelease : (Instr.lostRelease .P 256).wf = false := by decide
theorem test_wf_carriageReport : (Instr.carriageReport .F (some 256)).wf = false := by decide
theorem test_wf_transferRequest_robot : (Instr.transferRequest .F 256 0).wf = false := by decide
theorem test_wf_transferRequest_row : (Instr.transferRequest .F 0 256).wf = false := by decide
theorem test_wf_roundStart_slot : (Instr.roundStart .F 256 0 none).wf = false := by decide
theorem test_wf_roundStart_robot : (Instr.roundStart .F 0 256 none).wf = false := by decide
theorem test_wf_roundStart_start : (Instr.roundStart .F 0 0 (some (.span 256 1 .ascending))).wf = false := by decide
theorem test_wf_roundStart_count : (Instr.roundStart .F 0 0 (some (.span 0 256 .ascending))).wf = false := by decide
theorem test_wf_roundStart_limit : (Instr.roundStart .F 0 0 (some (.due 0 256 .immediate))).wf = false := by decide
theorem test_wf_roundStart_k : (Instr.roundStart .F 0 0 (some (.due 0 1 (.dueCount 256)))).wf = false := by decide
theorem test_wf_roundPause : (Instr.roundPause .F 256).wf = false := by decide
theorem test_wf_roundResume : (Instr.roundResume .F 256).wf = false := by decide
theorem test_wf_roundAbort : (Instr.roundAbort .F 256).wf = false := by decide
theorem test_wf_intervalReport_irradiation : (Instr.intervalReport .P 65536 0 1 [0]).wf = false := by decide
theorem test_wf_intervalReport_first : (Instr.intervalReport .P 0 256 1 [0]).wf = false := by decide
theorem test_wf_intervalReport_count : (Instr.intervalReport .P 0 0 256 [0]).wf = false := by decide
theorem test_wf_intervalReport_energy : (Instr.intervalReport .P 0 0 1 [65536]).wf = false := by decide
theorem test_wf_coeffWrite_first : (Instr.coeffWrite .P (some (.rows 256 1 [(0, 0)]))).wf = false := by decide
theorem test_wf_coeffWrite_count : (Instr.coeffWrite .P (some (.rows 0 256 [(0, 0)]))).wf = false := by decide
theorem test_wf_coeffWrite_track : (Instr.coeffWrite .P (some (.rows 0 1 [(65536, 0)]))).wf = false := by decide
theorem test_wf_coeffWrite_alt : (Instr.coeffWrite .P (some (.rows 0 1 [(0, 65536)]))).wf = false := by decide
theorem test_wf_coeffWrite_scalar : (Instr.coeffWrite .P (some (.scalar .w 65536))).wf = false := by decide
theorem test_wf_coeffRead_first : (Instr.coeffRead .P (some .active) 256 1).wf = false := by decide
theorem test_wf_coeffRead_count : (Instr.coeffRead .P (some .active) 0 256).wf = false := by decide
theorem test_wf_accountRead : (Instr.accountRead .P 256).wf = false := by decide
theorem test_wf_accountClear : (Instr.accountClear .P (some 256)).wf = false := by decide
theorem test_wf_windowTest : (Instr.windowTest .P (some .T) 256).wf = false := by decide
theorem test_wf_configWrite_low : (Instr.configWrite .P (.num .crossing (-32769))).wf = false := by decide
theorem test_wf_configWrite_high : (Instr.configWrite .P (.num .review 65536)).wf = false := by decide
theorem test_wf_configWrite_zoneRow : (Instr.configWrite .P (.rowZone 256 0)).wf = false := by decide
theorem test_wf_configWrite_zone : (Instr.configWrite .P (.rowZone 0 256)).wf = false := by decide
theorem test_wf_configWrite_window : (Instr.configWrite .P (.window 256 Window.all)).wf = false := by decide
theorem test_wf_configWrite_base : (Instr.configWrite .P (.window 0 { Window.all with base := 256 })).wf = false := by decide
theorem test_wf_configWrite_limit : (Instr.configWrite .P (.window 0 { Window.all with limit := 256 })).wf = false := by decide
theorem test_wf_configWrite_priority : (Instr.configWrite .P (.noticeClass .T none 256 false)).wf = false := by decide
theorem test_wf_configRead_zoneRow : (Instr.configRead .P (.rowZone 256)).wf = false := by decide
theorem test_wf_configRead_window : (Instr.configRead .P (.window 256)).wf = false := by decide
theorem test_wf_rowExpiry : [Instr.trackerSilenceExpiry 96, .approachExpiry 96, .guardInExpiry 96, .guardOutExpiry 96,
    .boardingExpiry 96, .forcedStowExpiry 96].all (fun i => i.wf) = false := by decide
theorem test_wf_robotExpiry : (Instr.robotSilenceExpiry 8).wf = false := by decide
theorem test_wf_image_item : (Instr.loadEnd (.image ⟨0, 0, [], [.rowZone 256 0], ⟨[], []⟩⟩)).wf = false := by decide
theorem test_wf_image_length : (Instr.loadEnd (.image ⟨0, 65536, [], [], ⟨[], []⟩⟩)).wf = false := by decide
theorem test_wf_image_rows : (Instr.loadEnd (.image ⟨0, 0, [], [], ⟨List.replicate 97 (0, 0), []⟩⟩)).wf = false := by
  decide +kernel
theorem test_wf_image_coefficient : (Instr.loadEnd (.image ⟨0, 0, [], [], ⟨[(65536, 0)], []⟩⟩)).wf = false := by decide
theorem test_wf_image_scalar : (Instr.loadEnd (.image ⟨0, 0, [], [], ⟨[], [(.w, 65536)]⟩⟩)).wf = false := by decide

/-! ### Values the spec states -/

/-- R174, R178: codes of the tables. -/
theorem test_codes : Result.code .clamped = 0x03 ∧ Result.code .state = 0x17 ∧ Result.code .notReady = 0x1C
    ∧ NoticeKind.code .permit = 0x01 ∧ NoticeKind.code .transferEnd = 0x0B ∧ NoticeKind.code .configState = 0x14
    ∧ Origin.code (.slot 3) = 3 ∧ Origin.code .recovery = 0x11 ∧ fetchedCode none = 0 := by decide

/-- R172: the CRC over the nine ASCII characters "123456789" is 0x29B1. -/
theorem test_crc_check : crc16 [0x31, 0x32, 0x33, 0x34, 0x35, 0x36, 0x37, 0x38, 0x39] = 0x29B1 := by decide +kernel

/-- R175: the codes of four requests, and a code outside the table. -/
theorem test_type_codes : typeOf 0x01 = some .status ∧ typeOf 0x10 = some .trackerReport ∧ typeOf 0x35 = some .windowTest
    ∧ typeOf 0x54 = some .restart ∧ typeOf 0x09 = none ∧ typeOf 0x81 = none := by decide

/-- R174: the TYPE of a reply, with 0xFF for a request TYPE of 0x80 or above. -/
theorem test_reply_types : replyType 0x54 = 0xD4 ∧ replyType 0x7F = 0xFF ∧ replyType 0x80 = 0xFF := by decide

/-- R176: the body of a TRACKER REPORT of row 3, HOLDING, −20 tenths of a degree. -/
theorem test_tracker_body : parse .trackerReport [1, 3, 2, 0xEC, 0xFF] = some (.trackerReport 1 [⟨3, some .holding, -20, []⟩]) := by
  decide

/-- R175: a body that does not fit its type is not read. -/
theorem test_body_lengths : parse .status [0] = none ∧ parse .trackerReport [2, 3, 2, 0xEC, 0xFF] = none
    ∧ parse .status [] = some .status := by decide

/-- R172: the bytes of STATUS with TAG 5, LENGTH 2, up to the CRC. -/
theorem test_frame_bytes : (frameBytes 0x01 0x05 []).take 4 = [0xA5, 0x02, 0x01, 0x05]
    ∧ (frameBytes 0x01 0x05 []).length = 6 := by decide +kernel

/-- R172 and R178: notice bodies of codes and numbers that the spec gives, the least significant byte first, 0xFF for absent. -/
theorem test_notice_bodies : Notice.body (.accountFrozen 3 0x01020304) = [3, 4, 3, 2, 1]
    ∧ Notice.body (.entryGrant 95 7 .fleet) = [95, 7, 0x10] ∧ Notice.body .accountsLost = []
    ∧ (Notice.body (.holdBreach 9 none .fault true)).take 4 = [9, 0x00, 0x80, 5]
    ∧ ((Notice.body (.carriageState .idle none (some 6) none 8 false)).drop 1).take 4 = [0xFF, 6, 0xFF, 8] := by
  refine ⟨?_, ?_, rfl, ?_, ?_⟩ <;> decide

/-- R172 and R174: a reply to a refused STATUS with TAG 5 has the result code alone in its BODY. -/
theorem test_reply_bytes : (ReplyFrame.bytes ⟨0x81, some 5, refuse .unknownType⟩).take 5 = [0xA5, 3, 0x81, 5, 0x1B] := by
  decide +kernel

/-- R118: a skip set of rows 0 and 9 as 12 bytes. -/
theorem test_skip_map : rowSetBytes (1#96 ||| (1#96 <<< 9)) = [1, 2, 0, 0, 0, 0, 0, 0, 0, 0, 0, 0] := by decide +kernel

/-- R188: the header is all ones until the last of the five writes. -/
theorem test_save_writes : headerErased 1 = true ∧ headerErased 4 = true ∧ headerErased 5 = false := by decide

/-- R120: with CAL 765, a window of 20 pulses gives 153 tenths of a metre per second; a speed stays at 999. -/
theorem test_speed : speedOf 20 765 = 153 ∧ speedOf 65535 5000 = 999 := by decide

/-- R53: window 0 holds rows 0 to 95 for every link and right by default, the others are off. -/
theorem test_default_windows : Settings.defaults.window 0 = Window.all ∧ Settings.defaults.window 1 = Window.off
    ∧ Settings.defaults.window 11 = Window.off := by decide +kernel

/-- R14: the hold window and the breach angle at their limits, with the defaults 20 and 50 around 0. -/
theorem test_tolerances : Settings.defaults.offCrossing (-20) = 20 ∧ Settings.defaults.offCrossing 51 = 51 := by decide +kernel

/-- R155, R156: 100 Wh/m² and 256/256 m² make 100 Wh; a TRACKING row that gives 40 has 60 on soil; a HELD row with K_ALT
128 has 50 on clean and 10 on soil. -/
theorem test_figures : figures 100 256 128 40 .tracking = ⟨100, 40, 0, 60, 0, 0⟩
    ∧ figures 100 256 128 40 .held = ⟨100, 40, 0, 10, 50, 0⟩ ∧ figures 100 256 128 130 .stowed = ⟨100, 130, 30, 0, 0, 0⟩ := by
  decide

/-- R159: a step with its fraction dropped toward zero, a forced step of one, and a W of 16. -/
theorem test_soiling_step : slToward 100 60 4 = 90 ∧ slToward 10 11 1 = 11 ∧ slToward 11 10 1 = 10 ∧ slToward 7 500 16 = 500 := by
  decide

/-- R147, R186: FORCED of 1 to 9 becomes 10, above 900 it becomes 900, 0 stays. -/
theorem test_forced_clamp : NumItem.clamp .forced 1 = 10 ∧ NumItem.clamp .forced 901 = 900 ∧ NumItem.clamp .forced 0 = 0 := by
  decide

/-- R161: the due list by soiling index, then by row. -/
theorem test_due_order : dueSort (fun r => [40, 90, 40].getD r 0) [0, 1, 2] = [1, 0, 2] := by decide

/-- R97: a span of 96 rows from row 90 ascending holds 6 rows of 96, descending 91. -/
theorem test_span_clamp : clampSpec 96 (.span 90 96 .ascending) = .span 90 6 .ascending
    ∧ clampSpec 96 (.span 90 97 .descending) = .span 90 91 .descending := by decide

/-- No word of the table spells a command: its rows have no bits. -/
theorem test_no_words : decodeTableWord 0 0 = none := rfl

/-! ### Small states -/

/-- A part of 96 rows in RUN, every row in FREE_MOTION. -/
def c96 : Core :=
  { Core.atReset Store.cleared false {} .unwritten with
    phase := .run, rows := Vector.replicate 96 { permit := .freeMotion }, review := some 60 }

/-- The same with three rows, in zones 0, 1 and 2. -/
def c3 : Core := { c96 with cfg := { c96.cfg with rows := 3 }, shadow := { c96.shadow with rows := 3 } }

/-- A state with a core and empty ports. -/
def on (c : Core) : State := ⟨⟨{}, c⟩, []⟩

/-- The state a command answers. -/
def after (i : Instr) (c : Core) : State :=
  match exec i (on c) with
  | .next t => t
  | .fault _ | .refused _ => State.reset

/-- The core a command leaves. -/
def left (i : Instr) (c : Core) : Core := (after i c).part.core

/-- A part with zone `z` parked. -/
def parked (c : Core) (z : Nat) : Core := c.modZone z (fun _ => ⟨some .park, .securing⟩)

/-- A robot's record for the tests. -/
def bot (state : RobotState) (row : Nat) : Robot := { state := state, row := some row, silence := some 30 }

/-- The core with a robot given a record. -/
def withBot (c : Core) (i : Nat) (x : Robot) : Core := c.modRobot i (fun _ => x)

/-- The core with a row given a record. -/
def withRow (c : Core) (r : Nat) (x : RowRec) : Core := c.modRow r (fun _ => x)

/-- An entry of the fleet agent. -/
def entryOf (i : Nat) : Option PendingEntry := some ⟨i, .fleet, false⟩

/-- A slot at work on a row. -/
def working (i r : Nat) (p : RowPhase) : Slot :=
  { state := .running, spec := some (.span 0 3 .ascending), robot := some i, link := some .F, nextIndex := 1
    current := some (r, p), remaining := 3 }

/-- A transfer of robot 0 from row 0 to row 2. -/
def move : Transfer := ⟨0, 0, 2, .service, .F, none, 0⟩

/-! ### One step of the commands -/

/-- R26: HOLD_REQ goes to GUARD_IN at 2.0 degrees with the tracker HOLDING. -/
theorem test_trackerReport_guards : ((left (.trackerReport .T 1 [⟨95, some .holding, 20, []⟩])
    (withRow c96 95 { permit := .holdReq })).row 95).permit = .guardIn := by decide +kernel

/-- R33: a breach angle in ENTRY sets the flag and orders the robot to anchor. -/
theorem test_trackerReport_breach :
    let c := left (.trackerReport .T 1 [⟨1, some .tracking, 51, []⟩]) (withBot (withRow c3 1 { permit := .entry }) 4 (bot .cleaning 1))
    (c.row 1).breach = true ∧ (c.robot 4).lastOrder = some (.anchor, some 1) := by decide +kernel

/-- R10, R19 and R33: PERMIT shows the breach flag as the first entry of a batch leaves it, which the second clears. -/
theorem test_trackerReport_batch :
    let t := after (.trackerReport .T 2 [⟨1, some .holding, 51, []⟩, ⟨1, some .tracking, 0, []⟩]) (withRow c3 1 { permit := .guardIn })
    ⟨1, .permit 1 .holdReq false true⟩ ∈ t.part.liu.t.queue ∧ (t.part.core.row 1).breach = false := by decide +kernel

/-- R46, R47: a window taken off between two entries refuses the later one alone, and a cleared T-link flag refuses none. -/
theorem test_trackerReport_write_between :
    let off : Item := .window 0 { (c3.cfg.window 0) with enabled := false }
    let t := after (.trackerReport .T 3 [⟨0, some .holding, 0, []⟩, ⟨1, some .holding, 0, [.linkEnable false true]⟩,
      ⟨2, some .holding, 0, [off]⟩]) c3
    t.replyOn .T = some ⟨.done, .tracker 2 0 1 0 0⟩ ∧ t.replyOn .P = some (refuse .done)
    ∧ (t.part.core.row 1).tracker = .holding ∧ (t.part.core.row 2).tracker = .unknown
    ∧ t.part.core.cfg.linkT = false ∧ (t.part.core.cfg.window 0).enabled = false := by decide +kernel

/-- R13: a silence timer that a report has restarted does not expire. -/
theorem test_trackerSilenceExpiry : ((left (.trackerSilenceExpiry 1) (withRow c3 1 { silence := some 60 })).row 1).silent = false := by
  decide +kernel

/-- R24: an entry request on a FREE_MOTION row. -/
theorem test_entryRequest : ((left (.entryRequest .F 7 95) (withBot c96 7 (bot .parked 95))).row 95).permit = .holdReq := by
  decide +kernel

/-- R27: the guard ends in ENTRY with the boarding timer started. -/
theorem test_guardInExpiry :
    let x := (left (.guardInExpiry 1) (withRow c3 1 { permit := .guardIn, guard := some 0, pending := entryOf 0 })).row 1
    x.permit = .entry ∧ x.boarding = some 120 ∧ x.pending = some ⟨0, .fleet, true⟩ := by decide +kernel

/-- R35: a robot on the panels of a FREE_MOTION row is an intruder, the row goes to ENTRY. -/
theorem test_robotReport_intrusion :
    let c := left (.robotReport .F 2 (some .onPanels) 1 (some 1001) none) c3
    (c.row 1).permit = .entry ∧ (c.robot 2).state = .cleaning ∧ (c.robot 2).position = some 1000 := by decide +kernel

/-- R31, R64 and R167: a pass completion parks the robot, the row goes to GUARD_OUT, SL is recorded and cleared. -/
theorem test_passComplete :
    let c := left (.passComplete .F 4 1)
      ((withBot (withRow c3 1 { permit := .entry }) 4 (bot .cleaning 1)).modAccount 1 (fun a => { a with sl := 70 }))
    (c.row 1).permit = .guardOut ∧ (c.robot 4).state = .parked ∧ (c.account 1).lastRecovery = 70 ∧ (c.account 1).sl = 0 := by
  decide +kernel

/-- R63 and R69: a FAULT report that completes recovery queues RECOVERED and FAULT. -/
theorem test_robotReport_recovered_fault :
    let x := { bot .lost 1 with onPanelsAtLoss := true, recoveryCount := 1, recoveryPlace := some (.fault, some 1) }
    (after (.robotReport .F 2 (some .fault) 1 none none) (withBot c3 2 x)).part.liu.p.queue.map (·.notice)
      = [.robotState 2 .recovered .stranded (some 1) false, .robotState 2 .fault .stranded (some 1) false] := by decide +kernel

/-- R78 and R81: a transfer on an idle carriage is granted at once. -/
theorem test_transferRequest :
    let c := left (.transferRequest .F 0 2) (withBot c3 0 (bot .parked 0))
    c.carriage.state = .toPickup ∧ (c.row 2).inbound = some 0 ∧ c.carriage.timer = some 600 := by decide +kernel

/-- R97 to R105: a span round at the robot's own station asks for its entry within the start. -/
theorem test_roundStart :
    let c := left (.roundStart .F 3 0 (some (.span 0 3 .ascending))) (withBot c3 0 (bot .parked 0))
    (c.slot 3).current = some (0, .waitingEntry) ∧ (c.row 0).permit = .holdReq ∧ (c.row 0).claim = some 3 := by decide +kernel

/-- R112: an abort ends the slot and frees its row. -/
theorem test_roundAbort :
    let c := left (.roundAbort .F 3) (left (.roundStart .F 3 0 (some (.span 0 3 .ascending))) (withBot c3 0 (bot .parked 0)))
    (c.slot 3).state = .ended ∧ (c.slot 3).remaining = 3 ∧ (c.row 0).claim = none ∧ (c.row 0).permit = .freeMotion := by
  decide +kernel

/-- R94 and R112: the end of a transfer that an ended round has left does not move the next round of the slot. -/
theorem test_transferTimerExpiry :
    let c := withBot (withBot c3 0 (bot .parked 0)) 1 { bot .parked 1 with round := some 3 }
    let t : Transfer := { move with cls := .round, slot := some 3 }
    let d : Core := (c.modSlot 3 (fun _ => working 1 2 .seeking)).modRow 2 (fun x => { x with claim := some 3, inbound := some 0 })
    (left .transferTimerExpiry { d with carriage := { state := .toPickup, active := some t, timer := some 0 } }).slot 3
      = working 1 2 .seeking := by decide +kernel

/-- R122: the second evaluation above WIND_CRIT makes the cause present at CRITICAL and parks the zones. -/
theorem test_windEvaluation :
    let c := left .windEvaluation { c3 with wind := { c0 := { count := 100, s2 := 500, s3 := 500 }, critRun := 1, parkRun := 1 } }
    (c.hazard .wind).cause = some .critical ∧ (c.zone 0).level = some .critical ∧ (c.row 0).permit = .stow := by
  decide +kernel

/-- R127: the strap sample, low, parks at once. -/
theorem test_hazNSample_strap :
    let c := left (.hazNSample false) { c3 with phase := .configWait }
    (c.hazard .line).latched = true ∧ c.line.disagree = 0 ∧ (c.zone 7).state = .secured := by decide +kernel

/-- R130 and R149: a review boundary after a PARK RELEASE clears the hazard and frees the rows. -/
theorem test_hazardReviewBoundary :
    let c := left .hazardReviewBoundary (left (.parkRelease .P) (left (.parkOrder .P (some .park)) { c3 with review := some 0 }))
    (c.hazard .plant).latched = false ∧ (c.row 2).permit = .freeMotion ∧ c.parkOut = false := by decide +kernel

/-- R130: a boundary and the wind evaluation that ends the hold on one tick, in either order. Boundary first, the WIND hazard
stays latched and the new period is whole; evaluation first, it clears. -/
theorem test_hazardReviewBoundary_orders :
    let c := { c3 with
      review := some 1, wind := { hold := 599 }, hazards := { wind := ⟨some .park, true, some .park, false, false⟩ } }
    let first := left .windEvaluation (left .hazardReviewBoundary c)
    let last := left .hazardReviewBoundary (left .windEvaluation c)
    first.hazard .wind = ⟨none, true, some .park, false, false⟩ ∧ first.review = some 60 ∧ first.ticked = false
    ∧ (last.hazard .wind).latched = false ∧ last.review = some 60 := by decide +kernel

/-- R37, R27: a guard that runs out before the wind evaluation of its tick takes the row to ENTRY; the seconds of that tick
are counted with it and once. -/
theorem test_guardInExpiry_before_evaluation :
    let c := left (.guardInExpiry 1) { withRow (withRow c3 2 { approach := some 9 }) 1
      { permit := .guardIn, guard := some 1, pending := entryOf 0 } with census := some 5 }
    (c.row 1).permit = .entry ∧ c.census = some 4 ∧ (c.row 2).approach = some 8
    ∧ (left .windEvaluation c).census = some 4 ∧ (left .windEvaluation (left .windEvaluation c)).census = some 3 := by
  decide +kernel

/-- R128: a present cause that rises again to the latched level clears the acknowledgement. -/
theorem test_parkOrder_raise :
    ((left (.parkOrder .P (some .critical)) { c3 with hazards := { plant := ⟨some .park, true, some .critical, true, false⟩ } }).hazard
      .plant).ackPending = false := by decide +kernel

/-- R143 and R147: at CRITICAL a row with a CLEANING robot starts its forced-stow timer, and the robot is to anchor. -/
theorem test_stowAll :
    let c := left (.stowAll .T) (withBot (withRow c3 1 { permit := .entry }) 4 (bot .cleaning 1))
    (c.row 1).forcedTimer = some 180 ∧ (c.robot 4).lastOrder = some (.anchor, some 1) ∧ (c.zone 1).state = .securing := by
  decide +kernel

/-- R148: its expiry stows the row under the robot. -/
theorem test_forcedStowExpiry :
    let c := left (.forcedStowExpiry 1)
      ((left (.stowAll .T) (withBot (withRow c3 1 { permit := .entry }) 4 (bot .cleaning 1))).modRow 1
        (fun x => { x with forcedTimer := some 0 }))
    (c.row 1).permit = .stow ∧ (c.row 1).forced = true ∧ (c.zone 1).state = .securing := by decide +kernel

/-- R154: a settlement of two rows of three. -/
theorem test_intervalReport :
    (after (.intervalReport .P 4096 1 3 [9, 65535, 9]) c3).replyOn .P
      = some ⟨.clamped, .settlement 1 1 1 1 0 false⟩ := by decide +kernel

/-- R164: a DUE_ON at the pending DUE_OFF is refused INVALID. -/
theorem test_coeffWrite : (after (.coeffWrite .P (some (.scalar .dueOn 20))) c3).replyOn .P = some (refuse .invalid) := by
  decide +kernel

/-- R186: ROWS is geometry and refused in RUN. -/
theorem test_configWrite : (after (.configWrite .P (.num .rows 4)) c3).replyOn .P = some (refuse .state) := by decide +kernel

/-- R184: an absent image leaves the part in CONFIG_WAIT; CONFIG APPLY then brings it to RUN. -/
theorem test_loadEnd_absent :
    let c := left (.loadEnd .headerOnes) { State.reset.part.core with phase := .loading }
    c.phase = .configWait ∧ c.parkOut = true := by decide +kernel

/-- R190: a warm restart puts the rows to STILL and the robots to UNSEEN, and counts the entry into RUN. -/
theorem test_restart :
    let c := left (.restart .P) (withBot c3 4 (bot .cleaning 1))
    (c.row 1).permit = .still ∧ (c.robot 4).state = .unseen ∧ c.runEntries = 1 ∧ c.census = some 60 := by decide +kernel

/-- R91 and R190: a warm restart that frees a carriage in FAULT queues CARRIAGE_STATE. -/
theorem test_restart_carriage :
    let q := (after (.restart .P) { c3 with carriage := { state := .fault } }).part.liu.f.queue
    q.any (fun x => x.notice = .carriageState .idle none none none 0 false) = true := by decide +kernel

/-- R168: VBAT lost in RUN, then main power, then the power-up: the store is lost. -/
theorem test_mainPowerLoss : (left (.fullReset false) (left (.mainPowerLoss false) (left .vbatLoss c3))).accountsLost = true
    ∧ (left (.fullReset false) (left (.mainPowerLoss false) c3)).accountsLost = false := by decide +kernel

/-- R189: a reset during a save leaves an image that is not VALID. -/
theorem test_saveTimeout : (left .saveTimeout { c3 with save := some ⟨⟨c3.shadow, c3.coActive⟩, 2⟩ }).save.isSome = true
    ∧ (left .saveTimeout { c3 with save := some ⟨⟨c3.shadow, c3.coActive⟩, 0⟩ }).save = none := by decide +kernel

/-- R174: STATUS as bytes of a frame is answered with its TAG. -/
theorem test_frameComplete :
    ((after (.frameComplete .P 0x01 0x77 []) c3).part.liu.p.reply.map (fun x => (x.type, x.tag, x.reply.result)))
      = some (0x81, some 0x77, .done) := by decide +kernel

/-- R168: a reset in the middle of a write loses the store, and ACCOUNTS_LOST waits for RUN. -/
theorem test_fullReset : (left (.fullReset true) c3).accountsLost = true ∧ (left (.fullReset false) c3).accountsLost = false := by
  decide +kernel

/-! ### States and operands that meet the statements' hypotheses

One theorem for each statement with hypotheses: those of the whole statement and of each of its clauses, at the limits of
their ranges where they have any. -/

/-- Every zone of a core made from the reset zones is CLEAR. -/
theorem clear_of (c : Core) (h : c.zones = Vector.replicate 8 {}) (z : Nat) : c.zoneClear z = true := by
  have e : c.zone z = {} := by rw [Core.zone, h]; exact look_replicate ({} : ZoneRec) z
  rw [Core.zoneClear, e]
  rfl

/-- A step from a state that answers a next state. -/
theorem stepped (s : State) : ∃ t, step s = .next t := by
  match h : s.pending with
  | [] => exact ⟨s, by rw [step, h]⟩
  | i :: is => rw [step, h]; cases i <;> exact ⟨_, rfl⟩

theorem wit_StepRunsFrontCommand :
    ({ on c3 with pending := [.vbatLoss] } : State).pending = .vbatLoss :: [] ∧ (on c3).pending = [] := ⟨rfl, rfl⟩

theorem wit_TrackerReportAppliesPassedEntries :
    let entries := List.replicate 60 (⟨95, some .fault, 901, []⟩ : TrackerEntry)
    (on c96).part.core.phase = .run ∧ c96.cfg.linkT = true ∧ entries.length = 60
    ∧ (∀ x ∈ entries, reportable x.state = true)
    ∧ [(⟨96, some .tracking, -900, []⟩ : TrackerEntry)].length = 1
    ∧ (∃ onT onF, Item.linkEnable false true = .linkEnable onT onF)
    ∧ entries = List.replicate 1 ⟨95, some .fault, 901, []⟩ ++ List.replicate 59 ⟨95, some .fault, 901, []⟩
    ∧ (after (.trackerReport .T 1 [⟨95, some .fault, 901, []⟩]) c96).part.core.cfg.linkT = true
    ∧ (let off : Item := .window 11 Window.off
      [⟨95, some .fault, 901, [off]⟩] = [{ (⟨95, some .fault, 901, []⟩ : TrackerEntry) with before := off :: [] }]
      ∧ (after (.configWrite .P off) c96).part.core.cfg.linkT = true) :=
  ⟨rfl, rfl, rfl, by decide +kernel, rfl, ⟨_, _, rfl⟩, rfl, by decide +kernel, rfl, by decide +kernel⟩

theorem wit_TrackerReportMovesGuardedRow :
    let c := withBot (withRow (withRow (withRow c96 95 { permit := .holdReq }) 94 { permit := .guardIn }) 93
      { permit := .entry }) 7 (bot .cleaning 93)
    c.phase = .run ∧ c.cfg.linkT = true ∧ c.cfg.rows ≤ 96
    ∧ (⟨95, some .holding, -20, []⟩ : TrackerEntry).before = []
    ∧ (∀ r ∈ [93, 94, 95], c.decode .T .report r = none ∧ c.rowClear r = true ∧ (c.row r).claim = none)
    ∧ (∀ x ∈ [TrackerState.holding, .fault, .tracking], reportable (some x) = true)
    ∧ (c.row 95).permit = .holdReq ∧ reportedAngle (-20) = some (-20) ∧ c.cfg.offCrossing (-20) = c.cfg.crossTol
    ∧ (c.row 94).permit = .guardIn ∧ reportedAngle 21 = some 21 ∧ c.cfg.crossTol < c.cfg.offCrossing 21
    ∧ (c.row 93).permit = .entry ∧ (c.row 93).breach = false ∧ reportedAngle 51 = some 51
    ∧ c.cfg.breachTol < c.cfg.offCrossing 51 ∧ c.occupancy 93 = [7] ∧ (c.robot 7).state ≠ .anchored
    ∧ c.cfg.offCrossing 50 = c.cfg.breachTol := by decide +kernel

theorem wit_TrackerSilenceExpiry :
    let c := withRow c96 95 { silence := some 0 }
    c.phase = .run ∧ 95 < c.cfg.rows ∧ (c.row 95).silence = some 0 := by decide +kernel

theorem wit_CensusExpiry :
    let c := parked { withRow (withRow c96 0 {}) 95 {} with census := some 0 } 7
    c.phase = .run ∧ c.census = some 0 ∧ c.cfg.rows ≤ 96
    ∧ (0 < c.cfg.rows ∧ (c.row 0).permit = .still ∧ c.occupancy 0 = [] ∧ c.rowClear 0 = true)
    ∧ (95 < c.cfg.rows ∧ (c.row 95).permit = .still ∧ c.occupancy 95 = [] ∧ c.rowClear 95 = false)
    ∧ (c.row 1).permit ≠ .still := by decide +kernel

theorem wit_CensusExpiry_clear :
    let c : Core := { c96 with census := some 0 }
    c.phase = .run ∧ c.census = some 0 ∧ c.cfg.rows ≤ 96 ∧ (∀ z, c.zoneClear z = true)
    ∧ (∀ r, (c.row r).claim = none) ∧ ∀ k, (c.slot k).current = none := by
  refine ⟨rfl, rfl, Nat.le_refl _, clear_of _ rfl, fun r => ?_, fun k => ?_⟩
  · by_cases h : r < 96
    · simp [Core.row, c96, look_of_lt, h]
    · simp [Core.row, look_of_ge, Nat.le_of_not_lt h]
  · have e : look (Vector.replicate 4 ({} : Slot)) {} k = {} := look_replicate (n := 4) ({} : Slot) k
    exact congrArg Slot.current e

theorem wit_EntryRequestChecks :
    let c := withBot (withBot c96 7 (bot .parked 95)) 6 (bot .parked 94)
    c.phase = .run
    ∧ c.decode .F .entry 96 = some .badRow
    ∧ (c.decode .F .entry 95 = none ∧ c.installed 8 = false)
    ∧ (c.installed 7 = true ∧ { c with census := some 0 }.census.isSome = true)
    ∧ (c.census = none ∧ ((withRow c 95 { permit := .stow }).row 95).permit = .stow)
    ∧ ((withRow c 95 { permit := .still }).row 95).permit = .still
    ∧ ((parked c 7).rowClear 95 = false ∧ ((parked c 7).row 95).permit = .freeMotion)
    ∧ ((c.row 95).permit = .freeMotion ∧ c.rowClear 95 = true ∧ (c.robot 6).station ≠ some 95)
    ∧ ((c.robot 7).station = some 95 ∧ (withBot c 0 (bot .lost 95)).occupancy 95 = []
      ∧ (withBot c 0 (bot .stranded 95)).occupancy 95 ≠ [])
    ∧ (c.occupancy 95 = [] ∧ (c.row 95).pending = none
      ∧ ((withRow c 95 { permit := .guardOut, claim := some 3 }).row 95).claim.isSome = true)
    ∧ ((c.row 95).claim = none ∧ ({ queue := [{ move with robot := 7 }] } : Carriage).carries 7 = true) := by decide +kernel

theorem wit_EntryRequestTaken :
    let c := withBot c96 7 (bot .parked 95)
    let d := withRow c 95 { permit := .guardOut, angle := some 20 }
    (∀ x ∈ [c, d], x.phase = .run ∧ x.decode .F .entry 95 = none ∧ x.installed 7 = true ∧ x.census = none
      ∧ ((x.row 95).permit = .freeMotion ∨ (x.row 95).permit = .guardOut) ∧ x.rowClear 95 = true
      ∧ (x.robot 7).station = some 95 ∧ x.occupancy 95 = [] ∧ (x.row 95).pending = none ∧ (x.row 95).claim = none
      ∧ x.carriage.carries 7 = false)
    ∧ (d.row 95).permit = .guardOut ∧ d.inWindow 95 = true ∧ (c.row 95).permit ≠ .guardOut := by decide +kernel

theorem wit_ApproachExpiry :
    let c := withRow c96 95 { permit := .guardIn, approach := some 0, pending := entryOf 7 }
    c.phase = .run ∧ (c.row 95).approach = some 0 ∧ (c.row 95).permit = .guardIn ∧ (c.row 95).pending = entryOf 7
    ∧ c.rowClear 95 = true ∧ (c.row 95).claim = none := by decide +kernel

theorem wit_GuardInExpiry :
    let c := withRow c96 95 { permit := .guardIn, guard := some 0, pending := entryOf 7 }
    let d := withBot (withRow c96 95 { permit := .guardIn, guard := some 0 }) 7 (bot .anchored 95)
    (∀ x ∈ [c, d], x.phase = .run ∧ (x.row 95).guard = some 0 ∧ (x.row 95).permit = .guardIn)
    ∧ (c.row 95).pending = entryOf 7 ∧ c.rowClear 95 = true ∧ (c.row 95).claim = none
    ∧ (d.row 95).pending = none ∧ d.occupant 95 = some 7 := by decide +kernel

theorem wit_GuardOutExpiry :
    let c := withRow c96 95 { permit := .guardOut, guard := some 0, pending := entryOf 7 }
    let d := withRow c96 95 { permit := .guardOut, guard := some 0 }
    (∀ x ∈ [c, d], x.phase = .run ∧ (x.row 95).guard = some 0 ∧ (x.row 95).permit = .guardOut)
    ∧ (c.row 95).pending = entryOf 7 ∧ (d.row 95).pending = none ∧ d.rowClear 95 = true ∧ d.census = none
    ∧ (d.row 95).claim = none := by decide +kernel

theorem wit_BoardingExpiry :
    let c := withRow c96 95 { permit := .entry, boarding := some 0, pending := entryOf 7 }
    let d := withBot c 6 (bot .stranded 95)
    (∀ x ∈ [c, d], x.phase = .run ∧ (x.row 95).boarding = some 0 ∧ (x.row 95).permit = .entry
      ∧ (x.row 95).pending = entryOf 7)
    ∧ c.occupancy 95 = [] ∧ c.rowClear 95 = true ∧ (c.row 95).claim = none ∧ d.occupancy 95 ≠ [] := by decide +kernel

theorem wit_PanelsEnteredMovesPermit :
    let row := fun (x : RowRec) => (Ev.start (withRow c96 95 x)).core.row 95
    (row { permit := .holdReq, pending := entryOf 7 }).permit ≠ .entry
    ∧ (row { permit := .holdReq, pending := entryOf 7 }).pending = entryOf 7
    ∧ (row { permit := .entry, pending := entryOf 7 }).permit = .entry
    ∧ (row { permit := .entry }).pending = none
    ∧ (row { permit := .stow }).permit = .stow
    ∧ ((row { permit := .guardIn }).permit = .guardIn ∧ (row { permit := .guardIn }).pending = none)
    ∧ (row { permit := .guardOut }).permit = .guardOut := by decide +kernel

theorem wit_PanelsEmptiedMovesPermit :
    let c := fun (x : RowRec) => withRow c96 95 x
    ((c { permit := .entry }).row 95).claim = none ∧ ((c { permit := .entry }).row 95).permit = .entry
    ∧ (((c { permit := .guardIn }).row 95).permit = .guardIn ∧ ((c { permit := .guardIn }).row 95).pending = none)
    ∧ ((c {}).row 95).permit = .still
    ∧ (((c { permit := .stow }).row 95).permit = .stow ∧ (parked (c { permit := .stow }) 7).rowClear 95 = false)
    ∧ ((c { permit := .stow }).rowClear 95 = true ∧ (c { permit := .stow }).occupancy 95 = [])
    ∧ ((withBot (c { permit := .stow }) 7 (bot .anchored 95)).occupancy 95 ≠ []
      ∧ (withBot (c { permit := .stow }) 7 (bot .anchored 95)).unanchored 95 = [])
    ∧ (withBot (c { permit := .stow }) 7 (bot .returning 95)).unanchored 95 ≠ [] := by decide +kernel

theorem wit_PanelsEmptiedMovesPermit_left :
    let c := fun (p : Permit) => withBot (withRow c96 95 { permit := p, pending := entryOf 7 }) 7 (bot .onCarriage 95)
    (∀ p ∈ [Permit.holdReq, .guardIn, .entry, .guardOut], ((c p).row 95).permit = p ∧ ((c p).row 95).claim = none
      ∧ ((c p).row 95).pending = entryOf 7 ∧ ((c p).robot 7).panelRow ≠ some 95 ∧ ((c p).robot 7).station ≠ some 95
      ∧ (c p).occupancy 95 = [])
    ∧ (withBot (c .entry) 0 (bot .stranded 95)).occupancy 95 ≠ []
    ∧ ((withBot (c .entry) 7 (bot .cleaning 95)).robot 7).panelRow = some 95 := by decide +kernel

theorem wit_PanelsEmptiedMovesPermit_parks :
    let c := fun (p : Permit) => withRow c96 95 { permit := p, pending := entryOf 7 }
    (∀ p ∈ [Permit.still, .freeMotion, .holdReq, .guardIn, .entry, .guardOut, .stow],
      (c p).phase = .run ∧ (c p).cfg.rows ≤ 96 ∧ 95 < (c p).cfg.rows ∧ (c p).zoneOf 95 = 7 ∧ ((c p).row 95).permit = p
      ∧ (c p).occupancy 95 = [])
    ∧ (c .entry).zoneOf 94 ≠ 7 ∧ ({ c .entry with phase := .configWait } : Core).phase ≠ .run
    ∧ (withBot (c .entry) 0 (bot .stranded 95)).occupancy 95 ≠ [] := by decide +kernel

theorem wit_WindowTestShowsDecode :
    let d : Core := { c96 with cfg := { c96.cfg with linkF := false, windows := Vector.replicate 12 Window.off } }
    c96.phase = .run ∧ 95 < c96.cfg.rows ∧ c96.cfg.rows ≤ 96
    ∧ (c96.cfg.enabled .F = true ∧ c96.cfg.deciding .F 95 = some 0)
    ∧ (d.cfg.enabled .F = false ∧ d.cfg.enabled .P = true ∧ d.cfg.deciding .P 95 = none) := by decide +kernel

/-- A core with one robot at a station keeps the station law. -/
theorem station_of (c : Core) (i : Nat) (x : Robot) (h : c.robots = Vector.replicate 8 {}) : (withBot c i x).stationLaw := by
  have e : ∀ j, j ≠ i → ((withBot c i x).robot j).station = none := by
    intro j hj
    have : (withBot c i x).robot j = {} := by
      rw [withBot, Core.robot_modRobot, if_neg (fun q => hj q.1), Core.robot, h]
      exact look_replicate ({} : Robot) j
    rw [this]
    rfl
  intro a b r ha hb
  by_cases p : a = i
  · by_cases q : b = i
    · rw [p, q]
    · rw [e b q] at hb; exact absurd hb (by simp)
  · rw [e a p] at ha; exact absurd ha (by simp)

theorem wit_RobotReportPlacesRobot :
    let c := withBot c96 7 (bot .cleaning 0)
    c.phase = .run ∧ c.cfg.linkF = true ∧ c.installed 0 = true ∧ c.installed 7 = true ∧ 95 < c.cfg.rows
    ∧ (c.robot 0).state ≠ .lost ∧ (c.robot 7).state = .cleaning := by decide +kernel

theorem wit_RobotReportPlacesRobot_law : (withBot c96 7 (bot .parked 95)).stationLaw ∧ (withBot c96 7 (bot .cleaning 0)).stationLaw :=
  ⟨station_of c96 7 _ rfl, station_of c96 7 _ rfl⟩

theorem wit_RobotReportPlacesRobot_displaces :
    let c := withBot c96 7 (bot .parked 95)
    ((c.robot 0).state, (c.robot 0).row) ≠ (.parked, some 95) ∧ (7 : Nat) ≠ 0 ∧ (c.robot 7).station = some 95 := by
  decide +kernel

theorem wit_FleetReportChecks :
    let c := withBot { c96 with cfg := { c96.cfg with installed := 0x7F } } 6 (bot .cleaning 94)
    c.phase = .run ∧ ({ c with cfg := { c.cfg with linkF := false } } : Core).cfg.linkF = false ∧ c.cfg.linkF = true
    ∧ c.installed 7 = false ∧ c.installed 6 = true ∧ c.cfg.rows ≤ 96 ∧ 95 < c.cfg.rows ∧ (c.robot 6).row ≠ some 95 := by
  decide +kernel

theorem wit_RecoveryReports :
    let c := withBot c96 7 { bot .lost 95 with onPanelsAtLoss := true, recoveryCount := 1, recoveryPlace := some (.fault, some 95) }
    let d := withBot c96 7 (bot .lost 95)
    (∀ x ∈ [c, d], x.phase = .run ∧ x.cfg.linkF = true ∧ x.installed 7 = true ∧ 95 < x.cfg.rows ∧ (x.robot 7).state = .lost)
    ∧ (c.robot 7).recoveryPlace = some (.fault, some 95) ∧ c.cfg.recovery = 2 ∧ (c.robot 7).onPanelsAtLoss = true
    ∧ (d.robot 7).recoveryPlace = none ∧ 1 < d.cfg.recovery ∧ (d.robot 7).onPanelsAtLoss = false := by decide +kernel

theorem wit_RecoveryReports_displaces :
    (withBot c96 0 (bot .parked 95)).stationLaw ∧ (0 : Nat) ≠ 7 ∧ ((withBot c96 0 (bot .parked 95)).robot 0).station = some 95
    ∧ ((withBot (withBot c96 0 (bot .parked 95)) 7 (bot .lost 95)).robot 7).state = .lost :=
  ⟨station_of c96 0 _ rfl, by decide +kernel, by decide +kernel, by decide +kernel⟩

theorem wit_PassCompleteCreditsRow :
    let c := withBot c96 7 (bot .returning 95)
    c.phase = .run ∧ c.cfg.linkF = true ∧ c.installed 7 = true ∧ 95 < c.cfg.rows ∧ c.cfg.rows ≤ 96
    ∧ (c.robot 7).state = .returning ∧ (c.robot 7).row = some 95 := by decide +kernel

theorem wit_RobotSilenceExpiry :
    let c := withBot (withBot c96 7 { bot .lost 95 with silence := some 0 }) 0 { bot .stranded 0 with silence := some 0 }
    c.phase = .run ∧ (c.robot 7).silence = some 0 ∧ (c.robot 7).state = .lost ∧ (c.robot 0).silence = some 0
    ∧ (c.robot 0).state ≠ .lost := by decide +kernel

theorem wit_LostRelease :
    let c := withBot { c96 with cfg := { c96.cfg with installed := 0x81 } } 7 (bot .lost 95)
    c.phase = .run ∧ c.installed 1 = false ∧ c.installed 0 = true ∧ (c.robot 0).state ≠ .lost ∧ c.installed 7 = true
    ∧ (c.robot 7).state = .lost := by decide +kernel

theorem wit_LostRelease_rounds (k : Nat) : (withBot c96 7 (bot .lost 95)).slot k = {} := by
  have e : look (Vector.replicate 4 ({} : Slot)) {} k = {} := look_replicate (n := 4) ({} : Slot) k
  exact e

theorem wit_StepKeepsStationLaw : (on (withBot c96 7 (bot .parked 95))).part.core.stationLaw
    ∧ ∃ t, step (on (withBot c96 7 (bot .parked 95))) = .next t := ⟨station_of c96 7 _ rfl, stepped _⟩

theorem wit_CarriageReport :
    let c := fun (x : CarriageState) => parked { c96 with carriage := { state := x } } 7
    (c .idle).phase = .run ∧ (c .idle).cfg.linkF = true ∧ (c .idle).cfg.rows ≤ 96 ∧ 95 < (c .idle).cfg.rows
    ∧ (∀ x ∈ [CarriageState.idle, .toPickup, .loaded, .secured, .fault], (c x).carriage.state = x)
    ∧ (c .idle).rowClear 95 = false ∧ (c .idle).rowClear 0 = true := by decide +kernel

theorem wit_TransferRequestChecks :
    let c := withBot (withBot c96 7 (bot .parked 94)) 6 (bot .cleaning 0)
    c.phase = .run ∧ c.decode .P .transfer 96 = some .badRow ∧ c.decode .P .transfer 95 = none
    ∧ c.installed 8 = false ∧ c.installed 6 = true ∧ (c.robot 6).state ≠ .parked
    ∧ c.installed 7 = true ∧ (c.robot 7).state = .parked
    ∧ ({ queue := [{ move with robot := 7 }] } : Carriage).carries 7 = true ∧ c.carriage.carries 7 = false
    ∧ (c.stationOccupant 94 ≠ none ∧ c.decode .P .transfer 94 = none)
    ∧ (c.stationOccupant 95 = none ∧ ((withRow c 95 { inbound := some 0 }).row 95).inbound ≠ none)
    ∧ ((c.row 95).inbound = none ∧ 8 ≤ (List.replicate 8 move).length
      ∧ ({ queue := List.replicate 8 move } : Carriage).carries 7 = false) := by decide +kernel

theorem wit_TransferRequestTaken :
    let c := withBot c96 7 (bot .parked 94)
    let d : Core := { c with carriage := { state := .fault, queue := List.replicate 7 move } }
    (∀ x ∈ [c, d], x.phase = .run ∧ x.decode .F .transfer 95 = none ∧ x.installed 7 = true ∧ (x.robot 7).state = .parked
      ∧ (x.robot 7).row = some 94 ∧ x.carriage.carries 7 = false ∧ x.stationOccupant 95 = none
      ∧ (x.row 95).inbound = none ∧ x.carriage.queue.length < 8 ∧ x.carriage.throttle = false)
    ∧ c.carriage.state = .idle ∧ c.carriage.queue = [] ∧ 1 < c.cfg.tUpper ∧ d.carriage.state ≠ .idle := by decide +kernel

theorem wit_TransferRequestTaken_throttle :
    let c := withBot { c96 with carriage := { state := .fault, throttle := true } } 7 (bot .parked 94)
    let d := parked (withBot c96 7 (bot .parked 94)) 6
    (c.carriage.throttle = true ∧ c.carriage.carries 7 = false ∧ c.decode .F .transfer 95 = none ∧ c.carriage.queue.length < 8)
    ∧ (d.carriage.state = .idle ∧ d.carriage.queue = [] ∧ d.rowClear 94 = false ∧ d.decode .F .transfer 95 = none)
    ∧ ({ d with carriage := { queue := [move] } } : Core).carriage.queue ≠ [] := by decide +kernel

theorem wit_TransferRequestTaken_clear (z : Nat) : (withBot c96 7 (bot .parked 94)).zoneClear z = true := clear_of _ rfl z

theorem wit_GrantConsiderationTakesFirstFree :
    let h : Transfer := { move with robot := 1, source := 1 }
    let c := parked { c96 with carriage := { queue := [h] ++ move :: [] } } 1
    c.carriage.state = .idle ∧ c.carriage.queue = [h] ++ move :: []
    ∧ (∀ x ∈ [h] ++ [move], c.decode x.link .transfer x.dest = none)
    ∧ (∀ x ∈ [h], (c.rowClear x.source && c.rowClear x.dest) = false)
    ∧ (c.rowClear move.source && c.rowClear move.dest) = true ∧ move ∉ ([] : List Transfer) := by decide +kernel

theorem wit_TransferTimerExpiry :
    let c : Core := { c96 with carriage := { state := .loaded, active := some move, timer := some 0 } }
    c.phase = .run ∧ c.carriage.active = some move ∧ c.carriage.timer = some 0 ∧ c.carriage.state = .loaded
    ∧ move.cls = .service ∧ (c.robot move.robot).round = none := by decide +kernel

theorem wit_TransferTimerExpiry_clear (z : Nat) :
    ({ c96 with carriage := { state := .loaded, active := some move, timer := some 0 } } : Core).zoneClear z = true :=
  clear_of _ rfl z

/-- R82 to R86: robot 0 with the active transfer, or with a queued one behind robot 1's. -/
theorem wit_TransferTimerExpiry_places :
    let active := fun (s : CarriageState) (x : Robot) =>
      withBot (parked { c96 with carriage := { state := s, active := some move, position := some 1 } } 7) 0 x
    let other : Transfer := { move with robot := 1, dest := 3 }
    let queued := fun (x : Robot) => withBot { c96 with carriage := { queue := [other] ++ move :: [] } } 0 x
    (∀ s ∈ [CarriageState.toPickup, .loaded], (active s {}).carriage.active = some move ∧ move.robot = 0
      ∧ (active s {}).carriage.state = s ∧ (active s {}).carriage.queue = [] ∧ move.dest = 2)
    ∧ ((active .loaded (bot .onCarriage 0)).robot 0).state = .onCarriage
    ∧ ((active .loaded (bot .parked 2)).robot 0).station = some move.dest
    ∧ ((active .loaded (bot .parked 95)).robot 0).station = some 95 ∧ (active .loaded {}).rowClear 95 = false
    ∧ (active .loaded {}).rowClear 2 = true
    ∧ ((active .loaded (bot .cleaning 95)).robot 0).row = some 95
    ∧ ((queued (bot .parked 2)).carriage.active = none ∧ (queued (bot .parked 2)).carriage.queue = [other] ++ move :: []
      ∧ other.robot ≠ 0 ∧ ((queued (bot .parked 2)).robot 0).station = some move.dest)
    ∧ (other.dest ≠ 2 ∧ move.dest = 2 ∧ move.robot ≠ 7) ∧ (queued {}).carriage.queue.all (fun t => t.robot ≠ 5) = true := by
  decide +kernel

/-- R89: a zone that parks, with a carriage in each of its states. -/
theorem wit_TransferTimerExpiry_parks :
    let c := fun (s : CarriageState) (r : Nat) => parked { c96 with
      carriage := { state := s, position := some r, queue := [move], active := if s = .toPickup then some move else none } } 2
    (∀ s ∈ [CarriageState.idle, .toPickup, .loaded, .fault, .secured], ((c s 2).zone 2).state ≠ .clear
      ∧ (c s 2).carriage.state = s)
    ∧ ((c .idle 90).zoneOf 90 = 2 ∧ (c .idle 89).zoneOf 89 ≠ 2)
    ∧ ((c .toPickup 90).carriage.active = some move ∧ (c .toPickup 90).zoneOf move.dest = 2
      ∧ (c .toPickup 90).rowClear 90 = false ∧ (c .toPickup 89).rowClear 89 = true)
    ∧ ((parked c96 3).zoneOf move.source ≠ 3 ∧ (parked c96 3).zoneOf move.dest ≠ 3) := by decide +kernel

theorem wit_CarriageClear :
    let c := fun (x : CarriageState) (r : Nat) => parked { c96 with carriage := { state := x, position := some r } } 7
    (c .idle 0).phase = .run ∧ (c .idle 0).carriage.state ≠ .fault
    ∧ ((c .fault 95).carriage.state = .fault ∧ (c .fault 95).rowClear 95 = false)
    ∧ ((c .fault 0).carriage.state = .fault ∧ (c .fault 0).rowClear 0 = true) := by decide +kernel

theorem wit_StepKeepsTransferQueueLaw :
    let s := on { c96 with carriage := { queue := [move], active := some { move with robot := 1 } } }
    s.part.core.carriage.queueLaw ∧ ∃ t, step s = .next t := ⟨⟨by decide, by decide⟩, stepped _⟩

theorem wit_RoundStart :
    let c := withBot (withBot c96 7 (bot .parked 95)) 6 { bot .parked 0 with round := some 0 }
    c.phase = .run ∧ c.cfg.enabled .F = true ∧ c.cfg.enabled .P = true
    ∧ c.installed 8 = false
    ∧ (c.installed 7 = true ∧ ¬(96 < c.cfg.rows) ∧ 95 < c.cfg.rows)
    ∧ ((c.modSlot 3 (fun _ => { state := .armed })).slot 3).state = .armed
    ∧ ((c.slot 3).state = .idle ∧ (c.robot 0).state ≠ .parked)
    ∧ ((c.robot 6).state = .parked ∧ (c.robot 6).round ≠ none)
    ∧ ((c.robot 7).state = .parked ∧ (c.robot 7).round = none ∧ c.carriage.carries 7 = false)
    ∧ ({ active := some { move with robot := 7 } } : Carriage).carries 7 = true := by decide +kernel

theorem wit_RoundPauseResumeAbort :
    let at3 := fun (x : Slot) => (c96.modSlot 3 (fun _ => x)).slot 3
    c96.phase = .run ∧ c96.cfg.enabled .F = true
    ∧ (at3 { working 7 95 .inPass with link := some .P }).link ≠ some .F
    ∧ ((at3 (working 7 95 .inPass)).state = .running ∧ (at3 (working 7 95 .inPass)).pausePending = false
      ∧ (at3 (working 7 95 .inPass)).link = some .F)
    ∧ (at3 { working 7 95 .seeking with state := .suspended, pausePending := true }).pausePending = true
    ∧ (at3 { working 7 95 .seeking with state := .paused, current := none }).state = .paused
    ∧ (at3 { working 7 95 .seeking with state := .armed }).state = .armed
    ∧ (at3 { working 7 95 .seeking with state := .ended }).state = .ended := by decide +kernel

theorem wit_RoundPauseResumeAbort_order :
    let c := withBot (c96.modSlot 3 (fun _ => working 7 95 .inPass)) 7 (bot .cleaning 95)
    (c.slot 3).robot = some 7 ∧ (c.robot 7).state = .cleaning ∧ (c.robot 7).row = some 95 ∧ c.rowClear 95 = true
    ∧ (parked c 7).rowClear 95 = false := by decide +kernel

/-- A choosing slot at a span of three rows from row 93. -/
def choosing : Slot := { state := .running, spec := some (.span 93 3 .ascending), robot := some 7, link := some .F, remaining := 3 }

theorem wit_RowChoice :
    let c := fun (x : Slot) => withBot (c96.modSlot 3 (fun _ => x)) 7 { bot .parked 95 with battery := some 25 }
    (∀ x ∈ [choosing, { choosing with pausePending := true }, { choosing with remaining := 0 }],
      (c x).slot 3 = x ∧ x.robot = some 7 ∧ ((c x).robot 7).state ≠ .lost ∧ x.state = .running ∧ x.current = none)
    ∧ (working 7 95 .seeking).current ≠ none
    ∧ choosing.complete = false ∧ ({ choosing with remaining := 0 } : Slot).complete = true
    ∧ ((c choosing).robot 7).battery = some (c choosing).cfg.battMin
    ∧ (withBot (c choosing) 7 { bot .parked 95 with battery := some 24 }).lowBattery (some 7) = true
    ∧ (c choosing).rowClear 95 = true ∧ (parked (c choosing) 7).rowClear 95 = false := by decide +kernel

/-- The third row of the span fits, the two before it carry claims. -/
theorem wit_RowChoice_span :
    let c := withBot (withRow (withRow c96 93 { claim := some 0 }) 94 { claim := some 0 }) 7 (bot .parked 95)
    choosing.spec = some (.span 93 3 .ascending) ∧ 2 < choosing.remaining
    ∧ (∀ r ∈ [93, 94], (c.row r).claim ≠ none)
    ∧ c.decode .F .round 95 = none ∧ (c.row 95).claim = none ∧ c.rowClear 95 = true ∧ c.stationOccupant 95 = some 7
    ∧ (c.row 95).inbound = none ∧ c.occupancy 95 = [] ∧ (parked c 7).rowClear 95 = false
    ∧ ((withRow c 95 { claim := some 0 }).row 95).claim ≠ none := by decide +kernel

/-- The same downwards: the third row of a span from row 95 fits, or its zone parks. -/
theorem wit_RowChoice_descending :
    let x := { choosing with spec := some (.span 95 3 .descending) }
    let c := withBot ((withRow (withRow c96 95 { claim := some 0 }) 94 { claim := some 0 }).modSlot 3 (fun _ => x)) 7 (bot .parked 0)
    x.spec = some (.span 95 3 .descending) ∧ 2 < x.remaining ∧ 95 - (x.nextIndex + 2) = 93
    ∧ (∀ r ∈ [95, 94], (c.row r).claim ≠ none)
    ∧ c.decode .F .round 93 = none ∧ (c.row 93).claim = none ∧ c.rowClear 93 = true ∧ c.stationOccupant 93 = none
    ∧ (c.row 93).inbound = none ∧ c.occupancy 93 = [] ∧ (parked c 5).rowClear 93 = false ∧ (parked c 5).rowClear 0 = true
    ∧ ((withRow c 93 { claim := some 0 }).row 93).claim ≠ none := by decide +kernel

/-- A due list of two rows, the first of which another robot stands at. -/
theorem wit_RowChoice_due :
    let c := withBot ((withRow (withRow c96 1 { due := true }) 2 { due := true }).modAccount 1 (fun a => { a with sl := 60 }))
      0 (bot .parked 1)
    let mask : Set8 := 0xFF
    c.dueList.filter (fun q => mask.getLsbD (c.zoneOf q) && (c.row q).claim.isNone && !(0#96).getLsbD q) = [1] ++ 2 :: []
    ∧ c.stationOccupant 1 = some 0 ∧ c.rowClear 2 = true ∧ (parked c 2).rowClear 2 = false ∧ c.stationOccupant 2 = none ∧ c.decode .F .round 2 = none
    ∧ c96.dueList = []
    ∧ ((List.range 96).filter (fun q => decide (q < c.cfg.rows) && (c.row q).due && mask.getLsbD (c.zoneOf q)
      && (c.row q).claim.isNone)).length = 2 := by decide +kernel

theorem wit_RoundWorksRow :
    let c := fun (p : RowPhase) (y : Robot) => withBot ((withRow c96 95 { permit := .freeMotion, claim := some 3 }).modSlot 3
      (fun _ => working 7 95 p)) 7 { y with round := some 3 }
    (∀ p ∈ [RowPhase.seeking, .waitingEntry, .inPass],
      let x := c p (bot .parked 95)
      (x.slot 3).robot = some 7 ∧ (x.robot 7).state ≠ .lost ∧ (x.robot 7).round = some 3
      ∧ (x.slot 3).current = some (95, p) ∧ (x.slot 3).state = .running ∧ (x.row 95).pending = none)
    ∧ (((c .seeking (bot .parked 94)).robot 7).station ≠ some 95
      ∧ ({ active := some { move with robot := 7 } } : Carriage).carries 7 = true)
    ∧ ((c .seeking (bot .onCarriage 94)).robot 7).state ≠ .parked
    ∧ (let x := c .seeking (bot .parked 94)
      (x.robot 7).row = some 94 ∧ x.carriage.carries 7 = false ∧ x.carriage.throttle = false ∧ (x.slot 3).link = some .F
      ∧ x.decode .F .transfer 95 = none ∧ x.installed 7 = true ∧ x.stationOccupant 95 = none ∧ (x.row 95).inbound = none
      ∧ ({ state := .fault } : Carriage).state ≠ .idle ∧ x.carriage.queue.length < 8)
    ∧ (let x := c .seeking (bot .parked 95)
      x.decode .F .entry 95 = none ∧ x.census = none ∧ (x.row 95).permit = .freeMotion ∧ x.rowClear 95 = true
      ∧ x.occupancy 95 = [] ∧ (x.row 95).claim = some 3)
    ∧ (let x := c .waitingEntry (bot .parked 95)
      x.decode .F .entry 95 = none ∧ (x.robot 7).row = some 95 ∧ (∀ j ∈ [0, 1, 2], (x.slot j).current = none)
      ∧ ((x.modRow 95 (fun y => { y with pending := entryOf 7 })).row 95).pending.isSome = true)
    ∧ (let x := c .inPass (bot .cleaning 95)
      x.zoneOf 95 = 7 ∧ (x.robot 7).row = some 95 ∧ x.zoneOf 95 ≠ 6)
    ∧ ((c .inPass (bot .parked 94)).robot 7).panelRow ≠ some 95
    ∧ (parked (c .inPass (bot .parked 95)) 7).rowClear 95 = false
    ∧ (((c .seeking (bot .parked 95)).modSlot 3 (fun x => { x with state := .suspended })).slot 3).state = .suspended := by
  decide +kernel

/-- A core without slots at work keeps the laws of the rounds. -/
theorem round_of (c : Core) (h : c.slots = Vector.replicate 4 {}) (g : ∀ r, (c.row r).claim = none) : c.roundLaw := by
  have e : ∀ k, c.slot k = {} := fun k => by rw [Core.slot, h]; exact look_replicate ({} : Slot) k
  refine ⟨fun k a n d => ?_, fun k => ?_, fun r k hk => ?_⟩
  · rw [e k]; intro q; cases q
  · rw [e k]; intro q; cases q
  · rw [g r] at hk; cases hk

theorem wit_StepKeepsRoundLaw : State.reset.part.core.roundLaw ∧ ∃ t, step State.reset = .next t := by
  refine ⟨round_of _ rfl (fun r => ?_), stepped _⟩
  by_cases h : r < 96
  · simp [Core.row, State.reset, Core.atReset, look_of_lt, h]
  · simp [Core.row, look_of_ge, Nat.le_of_not_lt h]

theorem wit_WindMonitor :
    let s := on { c96 with
      wind := { c0 := { count := 65535 }, critRun := 1, parkRun := 1, hold := 599 }
      hazards := { wind := ⟨some .park, true, some .park, false, false⟩ } }
    s.part.core.phase = .run ∧ (s.part.core.hazard .wind).cause ≠ none
    ∧ min 3600 (s.part.core.wind.hold + 1) = s.part.core.cfg.windHold ∧ (c96.hazard .wind).cause = none := by decide +kernel

/-- R122 and R128: a second evaluation above a threshold, on each record. -/
theorem wit_WindMonitor_cause :
    let v := fun (n : Nat) => (({ c0 := { s2 := n, s3 := n }, critRun := 1, parkRun := 1 } : Wind).evaluate c96.cfg false).1
    ((v 600).critRun = 2 ∧ (v 225).critRun ≠ 2 ∧ (v 225).parkRun = 2 ∧ (v 0).critRun ≠ 2 ∧ (v 0).parkRun ≠ 2)
    ∧ (({} : HazardRec).cause = none ∧ ({} : HazardRec).latched = false ∧ ({} : HazardRec).rearm = false)
    ∧ ({ rearm := true } : HazardRec).rearm = true
    ∧ ((⟨some .park, true, some .critical, true, false⟩ : HazardRec).cause ≠ none
      ∧ (⟨some .critical, true, some .critical, true, false⟩ : HazardRec).cause = some .critical)
    ∧ rank (some .park) < rank (some .critical) ∧ rank (some .park) ≤ rank (some .park) := by decide +kernel

/-- R123: the cause goes when the hold count reaches WIND_HOLD, its latch stays. -/
theorem wit_WindMonitor_gone :
    (left .windEvaluation { c96 with
      wind := { hold := 599 }, hazards := { wind := ⟨some .park, true, some .park, true, false⟩ } }).hazard .wind
      = ⟨none, true, some .park, true, false⟩ := by decide +kernel

theorem wit_WindMonitor_second :
    let t := left .windEvaluation { withRow c96 95 { guard := some 5, silence := some 1 } with census := some 60 }
    t.hazard .wind = c96.hazard .wind ∧ t.census = some 59 ∧ t.review = some 59 ∧ (t.row 95).guard = some 4
    ∧ (t.row 95).silence = some 0 := by decide +kernel

theorem wit_WindMonitor_expires :
    let k : Carriage := { state := .loaded, active := some move, timer := some 1 }
    let x := c96.modRow 95 (fun _ => ({
      permit := .guardIn, silence := some 1, approach := some 1, guard := some 1, forcedTimer := some 1 } : RowRec))
    let y := (withBot { x with
      carriage := k, census := some 1, review := some 1, save := some ⟨⟨c96.shadow, c96.coActive⟩, 1⟩ } 7
      { bot .cleaning 95 with silence := some 1 })
    y.phase = .run ∧ y.ticked = false ∧ ({ y with ticked := true } : Core).ticked = true
    ∧ (y.row 95).silence = some 1 ∧ 95 < y.cfg.rows ∧ (y.row 95).approach = some 1 ∧ (y.row 95).guard = some 1
    ∧ (y.row 95).permit = .guardIn ∧ (y.row 95).forcedTimer = some 1
    ∧ ((withRow y 0 { permit := .guardOut, guard := some 1 }).row 0).guard = some 1
    ∧ ((withRow y 0 { permit := .entry, boarding := some 1 }).row 0).boarding = some 1
    ∧ (y.robot 7).silence = some 1 ∧ y.census = some 1 ∧ y.review = some 1 ∧ y.carriage.timer = some 1
    ∧ y.carriage.active.isSome = true ∧ y.carriage.state = .loaded ∧ y.save.map (fun x => x.timer) = some 1
    ∧ (y.row 94).guard = none ∧ ¬(y.row 94).permit = .guardIn := by decide +kernel

theorem wit_LineFilterSamples :
    let c := fun (x : LineFilter) => ({ c96 with phase := .configWait, line := x } : Core)
    (c {}).phase = .configWait ∧ (c {}).line.strapDue = true ∧ (c ⟨0, true, false⟩).line.strapDue = false
    ∧ ((c {}).hazard .line).cause = none ∧ ((c {}).hazard .line).latched = false ∧ ((c {}).hazard .line).rearm = false
    ∧ (c ⟨0, true, false⟩).line.disagree = 0 ∧ 1 ≤ (c ⟨1, true, false⟩).line.disagree
    ∧ ({ c96 with hazards := { line := ⟨some .critical, true, some .critical, false, false⟩ } } : Core).hazards.line.cause ≠ none := by
  decide +kernel

theorem wit_HazardRequests :
    let x : HazardRec := { cause := none }
    let held : HazardRec := ⟨some .park, false, none, false, true⟩
    let latched : HazardRec := ⟨none, true, some .park, true, false⟩
    c96.phase = .run ∧ c96.cfg.linkT = true
    ∧ (rank x.cause < rank (some .park) ∧ x.latched = false ∧ x.rearm = false)
    ∧ (rank held.cause < rank (some .critical) ∧ held.cause ≠ none)
    ∧ (({ rearm := true } : HazardRec).cause = none ∧ ({ rearm := true } : HazardRec).rearm = true)
    ∧ (rank latched.cause < rank (some .critical) ∧ latched.latched = true ∧ rank latched.level < rank (some .critical))
    ∧ (rank (some .park) < rank (some .critical)
      ∧ (⟨some .park, true, some .critical, true, false⟩ : HazardRec).cause ≠ none)
    ∧ (rank latched.cause < rank (some .park) ∧ latched.cause = none)
    ∧ rank (some .park) ≤ rank latched.level ∧ ¬rank held.cause < rank (some .park)
    ∧ latched.ackPending = true ∧ ({ latched with ackPending := false } : HazardRec).ackPending = false := by decide

theorem wit_HazardReview :
    let c : Core := { c96 with
      phase := .configWait, review := some 0, hazards := { wind := ⟨none, true, some .park, false, false⟩ } }
    c.phase = .configWait ∧ c.review = some 0 ∧ (c.hazard .wind).latched = true ∧ c.cfg.mode .wind = .auto
    ∧ ({ c with review := some 1 } : Core).review = some 1 ∧ c.ticked = false
    ∧ (c.hazard .wind).cause = none ∧ (c.hazard .line).latched = false := by decide +kernel

theorem wit_ZoneEvaluation :
    let c := fun (old : Option Sev) (new : Option Sev) => (Ev.start ({ c96 with
      hazards := { plant := ⟨new, new.isSome, new, false, false⟩ } }.modZone 7 (fun _ => ⟨old, .securing⟩))).core
    (∀ old ∈ [none, some Sev.park, some .critical], ∀ new ∈ [none, some Sev.park, some .critical],
      ((c old new).zone 7).level = old ∧ (c old new).zoneLevel 7 = new)
    ∧ (let d := withBot (withBot (withBot c96 7 (bot .parked 95)) 0 (bot .cleaning 87)) 1 (bot .anchored 79)
      d.zoneOf 95 = 7 ∧ (d.robot 7).station = some 95 ∧ d.zoneOf 87 = 7 ∧ (d.robot 0).station = none
      ∧ (d.robot 0).panelRow = some 87 ∧ (d.robot 0).state ≠ .anchored ∧ (d.row 87).breach = false
      ∧ (d.robot 1).panelRow = some 79 ∧ ((withRow d 87 { breach := true }).row 87).breach = true) := by decide +kernel

theorem wit_ZoneTest :
    let z := c96.modZone 7 (fun _ => ⟨some .critical, .secured⟩)
    let c := withBot (withBot (withRow (withRow z 95 { permit := .entry }) 87 { permit := .entry, forcedTimer := some 1 })
      7 (bot .anchored 95)) 0 (bot .cleaning 87)
    (c.zone 7).state ≠ .clear ∧ c.cfg.rows ≤ 96 ∧ (c.zone 7).level = some .critical
    ∧ ((c.row 95).permit = .entry ∧ c.zoneOf 95 = 7 ∧ c.occupancy 95 = [7] ∧ (c.robot 7).state = .anchored)
    ∧ (c.occupancy 87 = [0] ∧ (c.robot 0).state ≠ .anchored ∧ (c.row 87).forcedTimer ≠ none)
    ∧ c.cfg.forced ≠ 0 := by decide +kernel

theorem wit_ZoneTest_orders :
    let z := c96.modZone 7 (fun _ => ⟨some .critical, .securing⟩)
    let c0 := withBot z 0 (bot .anchored 87)
    let c := withBot (withBot z 0 { bot .returning 87 with lastOrder := some (.anchor, some 87) }) 7 (bot .parked 95)
    let d := withBot (c96.modZone 7 (fun _ => ⟨some .park, .securing⟩)) 0 (bot .cleaning 87)
    (c0.robot 0).state ≠ (c.robot 0).state ∧ (c0.robot 0).state = .anchored
    ∧ (c.zoneOf 87 = 7 ∧ (c.robot 0).station = none ∧ (c.robot 0).panelRow = some 87 ∧ (c.robot 0).state ≠ .anchored)
    ∧ (c.robot 0).state = .returning ∧ ((withBot c0 0 (bot .lost 87)).robot 0).state = .lost
    ∧ (c.robot 0).lastOrder = some (.anchor, (c.robot 0).row) ∧ (c.zone 7).level = some .critical
    ∧ (c.zoneOf 95 = 7 ∧ (c.robot 7).station = some 95 ∧ (c.robot 7).lastOrder ≠ some (.holdAtStation, (c.robot 7).row))
    ∧ ((d.zone 7).level = some .park ∧ (d.row 87).breach = false ∧ (d.robot 0).state = .cleaning)
    ∧ ((withBot d 0 (bot .returning 87)).robot 0).state ≠ .cleaning
    ∧ ((withRow d 87 { breach := true }).row 87).breach = true := by decide +kernel

theorem wit_ForcedStowExpiry :
    let c := fun (x : RowRec) => withRow c96 95 { x with forcedTimer := some 0 }
    (c {}).phase = .run ∧ ((c {}).row 95).forcedTimer = some 0 ∧ ((c { permit := .stow }).row 95).permit ≠ .entry
    ∧ ((c { permit := .entry }).row 95).permit = .entry ∧ ((c { permit := .entry }).row 95).pending = none
    ∧ ((c { permit := .entry, pending := entryOf 7 }).row 95).pending = entryOf 7 := by decide +kernel

/-- A core with the reset zones and no latched hazard keeps the law of the zones. -/
theorem zone_of (c : Core) (h : c.zones = Vector.replicate 8 {}) (g : ∀ x, (c.hazard x).latched = false) : c.zoneLaw := by
  intro z
  have e : c.zone z = {} := by rw [Core.zone, h]; exact look_replicate ({} : ZoneRec) z
  have l : c.zoneLevel z = none := by simp [Core.zoneLevel, Core.zoneHazards, Hazard.all, g]
  rw [e, l]
  decide

theorem wit_StepKeepsZoneLaw : State.reset.part.core.zoneLaw ∧ State.reset.part.core.quietStart
    ∧ ∃ t, step State.reset = .next t :=
  ⟨zone_of _ rfl (fun h => by cases h <;> rfl), fun _ h => by cases h <;> rfl, stepped _⟩

theorem wit_StepKeepsPinsAndQueues : State.reset.part.core.parkOutLaw ∧ State.reset.part.liu.lawful
    ∧ ∃ t, step State.reset = .next t := by
  refine ⟨Or.inr rfl, fun l => ?_, stepped _⟩
  cases l <;> exact ⟨⟨by decide, by decide⟩, rfl, by decide, by decide, by decide⟩

theorem wit_IntervalFigures : (16 : Nat) ≤ 16 ∧ (1000 : Nat) ≤ 1000 ∧ (0 : Nat) < 1000 := by decide

theorem wit_IntervalReport :
    let c : Core := { c96 with coActive := { c96.coActive with loadEvery := 2 }, commit := true, loadCounter := 1 }
    let a : Account := { intervals := 4294967295 }
    c.phase = .run ∧ c.cfg.rows ≤ 96 ∧ (List.replicate 96 0).length = 96 ∧ [0].length = 1
    ∧ c.loadCounter + 1 = c.coActive.loadEvery ∧ c96.loadCounter + 1 = c96.coActive.loadEvery ∧ c.commit = true
    ∧ c96.commit = false ∧ a.frozen = false ∧ 4294967295 < a.intervals + 1 ∧ ({ frozen := true } : Account).frozen = true
    ∧ (decide (0 + 95 < c.cfg.rows) && (List.replicate 96 0).getD 95 0 != 65535) = true
    ∧ (c.row 95).due = false ∧ (c.row 95).mixed = true ∧ c.loadCounter < 15 := by decide +kernel

theorem wit_CoefficientRequests :
    c96.phase = .run ∧ c96.cfg.rows ≤ 96 ∧ 95 < c96.cfg.rows ∧ c96.commit = false
    ∧ ({ c96 with commit := true } : Core).commit = true ∧ (List.replicate 24 (0, 0)).length = 24 ∧ [(0, 0)].length = 1
    ∧ c96.coPending.dueOff < 21 ∧ (20 : Nat) ≤ c96.coPending.dueOff ∧ 39 < c96.coPending.dueOn ∧ c96.coPending.dueOn ≤ 40 := by
  decide +kernel

theorem wit_AccountsAndDueList : c96.phase = .run ∧ c96.cfg.rows ≤ 96 ∧ 95 < c96.cfg.rows := by decide +kernel

/-- The cleared store keeps the laws of the accounts. -/
theorem store_cleared_lawful : Store.cleared.lawful := by
  intro r
  have e : look Store.cleared.rows ({} : Account) r = {} := look_replicate (n := 96) ({} : Account) r
  rw [e]
  exact ⟨rfl, by decide⟩

theorem wit_StepKeepsAccountLaw :
    (c96.store.lawful ∧ c96.coActive.w ≤ 16 ∧ c96.coPending.w ≤ 16) ∧ c96.phase = .run ∧ ∃ t, step (on c96) = .next t :=
  ⟨⟨store_cleared_lawful, by decide, by decide⟩, rfl, stepped _⟩

theorem wit_StepKeepsAccountLaw_run :
    let s : State := { on c3 with pending := [.coeffCommit .P] }
    (match step s with | .next t => t.part.core.phase | .fault _ | .refused _ => .off) = .run := by decide +kernel

theorem wit_Queries : c96.phase = .run ∧ c96.cfg.enabled .T = true ∧ c96.cfg.rows ≤ 96 ∧ 95 < c96.cfg.rows := by
  decide +kernel

theorem wit_NoticeQueues :
    let n : Notice := .zoneState 7 .clear none []
    let full := List.replicate 15 (⟨0, .accountsLost⟩ : Queued) ++ ⟨3, .accountsLost⟩ :: []
    c96.phase = .run ∧ ((on c96).part.liu.port .P).queue = []
    ∧ (⟨1, true⟩ : NoticeClass).masked = true ∧ (⟨1, false⟩ : NoticeClass).masked = false
    ∧ n.subject ≠ none ∧ (Notice.zoneState 7 .secured (some .park) [.line]).subject = n.subject
    ∧ Notice.accountsLost.subject = none ∧ (List.replicate 15 (⟨0, .accountsLost⟩ : Queued)).length < 16
    ∧ 16 ≤ full.length ∧ (∀ y ∈ List.replicate 15 (⟨0, .accountsLost⟩ : Queued), y.priority ≤ 3)
    ∧ (2 : Nat) < 3 ∧ (3 : Nat) ≤ 3 := by decide +kernel

theorem wit_NoticeQueues_fetch :
    let s : State := ⟨⟨{ p := { queue := [⟨3, .accountsLost⟩] } }, c96⟩, []⟩
    s.part.core.phase = .run ∧ (s.part.liu.port .P).queue ≠ [] := by decide +kernel

theorem wit_NoticeQueues_angle : (-32768 : Int) < -900 ∧ (900 : Int) < 32768 ∧ (-32768 : Int) < -32767 ∧ (32767 : Int) < 32768 := by
  decide

theorem wit_ReceiverStates :
    let p := fun (r : Receiver) => ((⟨⟨{ t := { receiver := r } }, c96⟩, []⟩ : State).part.liu.port .T).receiver
    c96.phase = .run ∧ p .hunt = .hunt ∧ p .length = .length
    ∧ 2 ≤ (2 : Byte).toNat ∧ (250 : Byte).toNat ≤ 250 ∧ (1 : Byte).toNat < 2 ∧ 250 < (251 : Byte).toNat
    ∧ (p (.data 2 []) = .data 2 [] ∧ ([] : List Byte).length + 1 < (2 : Byte).toNat)
    ∧ (p (.data 2 [1]) = .data 2 [1] ∧ (2 : Byte).toNat ≤ [(1 : Byte)].length + 1)
    ∧ p (.crc 2 [1, 5] none) = .crc 2 [1, 5] none
    ∧ p (.crc 2 [1, 5] (some 0)) = .crc 2 [1, 5] (some 0)
    ∧ crc16 [2, 1, 5] ≠ (0 : Byte) ++ (0 : Byte)
    ∧ crc16 [2, 1, 5] = (crc16 [2, 1, 5]).extractLsb' 8 8 ++ (crc16 [2, 1, 5]).extractLsb' 0 8 := by decide +kernel

theorem wit_FrameBytesAreTheFrame :
    let bytes := frameBytes 1 5 []
    let s : State := { on c96 with pending := bytes.map (.byteReceived .T) ++ [] }
    let wrong := bytes.take 4 ++ [0, 0]
    s.part.core.phase = .run ∧ (s.part.liu.port .T).receiver = .hunt ∧ (List.replicate 248 (0 : Byte)).length ≤ 248
    ∧ s.pending = bytes.map (.byteReceived .T) ++ [] ∧ wrong ≠ bytes ∧ 248 < (List.replicate 249 (0 : Byte)).length
    ∧ (0xFE : Byte) ≠ 0xFF := by decide +kernel

theorem wit_FramePlaces :
    let f : Frame := ⟨.raw 1 5 [], true⟩
    let p := fun (x : Port) => (⟨⟨{ t := x }, c96⟩, []⟩ : State).part.liu.port .T
    c96.phase = .run ∧ 248 < (List.replicate 249 (0 : Byte)).length ∧ (List.replicate 248 (0 : Byte)).length ≤ 248
    ∧ ((p { inService := some f }).inService.isSome = true ∧ (p { inService := some f }).waiting = none)
    ∧ (p { inService := some f, waiting := some f }).waiting.isSome = true
    ∧ ((p {}).inService = none ∧ typeOf 0x09 = none ∧ typeOf 0x01 = some .status ∧ parse .status [0] = none
      ∧ validOn .status .T = true)
    ∧ (parse .status [] = some .status ∧ requestOf (.status .T) = some (.T, .status))
    ∧ ((p { inService := some f }).inService.any (fun f => f.taken) = true ∧ (p { inService := some f }).receiver = .hunt)
    ∧ (p {}).inService.all (fun f => !f.taken) = true := by decide +kernel

theorem wit_FramePlaces_request : ∃ u, exec (.status .T) (on c96) = .next u := ⟨_, rfl⟩

theorem wit_DispatchOrder :
    requestOf (.parkRelease .T) = some (.T, .parkRelease) ∧ requestOf (.stowAll .T) = some (.T, .stowAll)
    ∧ ({ c96 with phase := .configWait } : Core).phase = .configWait
    ∧ (¬(3 < 3) ∧ 3 < 4 ∧ (0 : Nat) = 0 ∧ 60 < 61 ∧ 96 < 97 ∧ 24 < 25 ∧ ¬(24 < 24))
    ∧ Request.malformed (.roundPause 4) = true ∧ Request.malformed (.roundPause 3) = false
    ∧ Request.malformed (.trackerReport 60 (List.replicate 60 ⟨0, some .fault, 0, []⟩)) = false
    ∧ Request.malformed (.trackerReport 1 [⟨0, some .unknown, 0, []⟩]) = true
    ∧ Request.malformed (.configRead (.noticeClass .T (some .settled))) = true
    ∧ Request.malformed (.configRead (.noticeClass .P (some .settled))) = false
    ∧ ({ c96 with cfg := { c96.cfg with linkF := false } } : Core).cfg.enabled .F = false := by decide +kernel

theorem wit_ResetAndPower :
    c96.store.markerValid = true ∧ c96.phase = .run ∧ ({ c96 with phase := .off } : Core).phase = .off
    ∧ c96.vbat.present = true ∧ ({ c96 with vbat := ⟨false, 0⟩ } : Core).vbat.present = false
    ∧ c96.save = none ∧ ({ c96 with save := some ⟨⟨c96.shadow, c96.coActive⟩, 10⟩ } : Core).save ≠ none
    ∧ State.reset.part.core.phase = .inReset := by decide +kernel

/-- The bytes of an image before its CRC. -/
def imageBody : List Byte := [1, 2, 3, 4, 5, 6, 7, 8, 9, 10]

/-- An image of one item, out of range. -/
def image : Image :=
  { format := Config.formatCode, length := 12, bytes := imageBody ++ bytes16 (crc16 imageBody)
    items := [.num .guard 121], coeffs := ⟨[(1, 2)], [(.w, 17)]⟩ }

theorem wit_LoadEnd :
    let s := on { State.reset.part.core with phase := .loading }
    s.part.core.phase = .loading ∧ s.part.core.image = .unwritten ∧ Config.imageBytes = 2048
    ∧ Image.crcOk { image with bytes := 0 :: image.bytes.drop 1 } = false
    ∧ Item.malformed (.rowZone 96 0) = true
    ∧ repeats ([Item.num .guard 5, .num .guard 6].map Item.ref) = true
    ∧ (Image.settings { image with items := [.num .tLower 4] }).ordered = false
    ∧ (Image.coeffSet { image with coeffs := ⟨[], [(.dueOff, 40)]⟩ }).dueOn
      ≤ (Image.coeffSet { image with coeffs := ⟨[], [(.dueOff, 40)]⟩ }).dueOff
    ∧ image.items.map Item.ref = [.num .guard] ∧ image.coeffs.rows[0]? = some (1, 2) := by decide +kernel

/-- R184: a sound image is VALID. -/
theorem wit_LoadEnd_valid : image.format = Config.formatCode ∧ Image.valid image = true := by
  refine ⟨rfl, ?_⟩
  have crc : Image.crcOk image = true := by decide +kernel
  have rest : (decide (image.length ≤ Config.imageBytes) && !image.items.any (fun x => Item.malformed x)
      && !repeats (image.items.map Item.ref) && !repeats (image.coeffs.scalars.map (·.1))
      && (Image.settings image).ordered && decide ((Image.coeffSet image).dueOff < (Image.coeffSet image).dueOn)) = true := by
    decide +kernel
  simp only [Bool.and_eq_true] at rest
  simp only [Image.valid, Bool.and_eq_true, crc, and_true]
  exact ⟨⟨⟨⟨⟨⟨beq_self_eq_true _, rest.1.1.1.1.1⟩, rest.1.1.1.1.2⟩, rest.1.1.1.2⟩, rest.1.1.2⟩, rest.1.2⟩, rest.2⟩

theorem wit_LoadEnd_cut : ({ c96 with image := .cut 4 } : Core).image = .cut 4 ∧ (4 : Nat) < 5 ∧ (5 : Nat) ≤ 5
    ∧ ∀ n, (on { State.reset.part.core with phase := .loading }).part.core.image ≠ .cut n :=
  ⟨rfl, by decide, by decide, fun _ h => by cases h⟩

theorem wit_LoadEnd_coefficients :
    (.w, 17) ∈ image.coeffs.scalars ∧ (∀ v, (CoeffItem.eMin, v) ∉ image.coeffs.scalars) ∧ image.coeffs.rows.length ≤ 1
    ∧ (Image.coeffSet image).w = 16 ∧ (Image.coeffSet image).eMin = 200 ∧ (Image.coeffSet image).track 0 = 1 :=
  ⟨by decide, by simp [image], by decide, by decide +kernel, by decide +kernel, by decide +kernel⟩

/-- R184: a STATUS frame held on the T-link with nothing on the others. -/
theorem wit_LoadEnd_held :
    let held : Link → Option (Byte × Byte × List Byte) := fun l => if l = .T then some (1, 5, []) else none
    let s : State := ⟨⟨{ t := { inService := some ⟨.raw 1 5 [], false⟩ } },
      { State.reset.part.core with phase := .loading }⟩, []⟩
    s.part.core.phase = .loading
    ∧ (∀ l, (s.part.liu.port l).inService = (held l).map (fun x => ⟨.raw x.1 x.2.1 x.2.2, false⟩))
    ∧ ∀ l x, held l = some x → (s.part.liu.port l).receiver = .hunt ∧ x.2.2.length ≤ 248 := by
  refine ⟨rfl, fun l => by cases l <;> rfl, fun l x h => ?_⟩
  cases l <;> cases h
  exact ⟨rfl, by decide⟩

theorem wit_LoadEnd_clear : (∀ l, ((on { State.reset.part.core with phase := .loading }).part.liu.port l).inService = none)
    ∧ ∀ z, ({ State.reset.part.core with phase := .loading } : Core).zoneClear z = true :=
  ⟨fun l => by cases l <;> rfl, clear_of _ rfl⟩

theorem wit_ConfigWriteAndRead :
    let w : Core := { c96 with phase := .configWait }
    c96.phase = .run ∧ w.phase = .configWait ∧ c96.shadow.ordered = true
    ∧ (∀ x ∈ [Item.num .rows 97, .num .tLower 4, .num .guard 121, .window 11 Window.off, .linkRate (some .b9600),
      .lineLevel (some .park)], Item.malformed x = false)
    ∧ (c96.shadow.set (Item.clamp (.num .tLower 4))).ordered = false
    ∧ (c96.shadow.set (Item.clamp (.num .tLower 3))).ordered = true := by decide +kernel

theorem wit_ConfigWriteAndRead_line :
    let c := fun (x : HazardRec) => ({ c96 with hazards := { line := x } } : Core).hazard .line
    (c {}).cause = none ∧ (c ⟨some .park, false, none, false, true⟩).cause ≠ none
    ∧ (c ⟨some .park, true, some .park, true, false⟩).latched = true ∧ rank (some .park) < rank (some .critical)
    ∧ ¬rank (some .critical) < rank (some .critical) ∧ (c ⟨some .critical, true, some .critical, false, false⟩).cause ≠ none := by
  decide +kernel

theorem wit_ApplySaveRestart :
    let w := parked { State.reset.part.core with phase := .configWait } 7
    c96.phase = .run ∧ w.phase = .configWait ∧ c96.save = none ∧ (w.row 95).permit = .still ∧ w.rowClear 95 = false
    ∧ c96.rowClear 95 = true ∧ 95 < c96.cfg.rows
    ∧ ({ c96 with save := some ⟨⟨c96.shadow, c96.coActive⟩, 10⟩ } : Core).save ≠ none
    ∧ (⟨⟨c96.shadow, c96.coActive⟩, 0⟩ : Save).timer = 0 ∧ (⟨⟨c96.shadow, c96.coActive⟩, 1⟩ : Save).timer ≠ 0 := by
  decide +kernel

theorem wit_ApplySaveRestart_quiet : (∀ z, c96.zoneClear z = true) ∧ c96.phase = .run ∧ c96.accountsLost = false
    ∧ c96.carriage.state = .idle ∧ c96.carriage.passenger = none ∧ c96.carriage.throttle = false :=
  ⟨clear_of _ rfl, rfl, rfl, rfl, rfl, rfl⟩

theorem wit_StepKeepsConfigurationLaw : State.reset.part.core.configLaw ∧ c96.configLaw ∧ ∃ t, step (on c96) = .next t :=
  ⟨⟨by decide +kernel, fun h => by cases h⟩, ⟨by decide +kernel, fun _ => rfl⟩, stepped _⟩

end Sys2Proof.Tests
end

section
/-! PROOFS. The silence expiry of a tracker (R12). -/

namespace Sys2Proof.Proofs

open Sys2Proof.Machine

theorem exec_trackerSilenceExpiry (r : Nat) (s : State) :
    exec (.trackerSilenceExpiry r) s = .next (s.event (trackerSilenceExpiry r)) := rfl

/-- Settles O5: the event is one change of the row's record that leaves its permit alone, so it ends calmly. -/
theorem trackerSilenceExpiry : Obligations.TrackerSilenceExpiry := by
  intro s r hrun hr hzero
  have present : s.part.core.present r = true := decide_eq_true hr
  rw [exec_trackerSilenceExpiry, State.event_run _ _ hrun, Machine.trackerSilenceExpiry, present,
    Core.atExpiry_now _ _ _ hzero]
  refine congrArg Host.Outcome.next (State.ends_calm s _ rfl ?_)
  exact Core.calm_modRow _ _ _ (fun h => absurd rfl h)

end Sys2Proof.Proofs
end

section
/-! PROOFS. The queries and STATUS (R16, R17, R73, R93, R118, R134, R152, R177): each passes the dispatch and answers from the
state. -/

namespace Sys2Proof.Machine

/-- A query of R175: a request that `Part.perform` answers from the state, with the state unchanged. -/
theorem State.request_answered (s : State) (l : Link) (q : Request) (r : Reply) (h : s.part.core.phase = .run)
    (v : validOn q.type l = true) (m : Request.malformed q = false) (f : s.part.core.cfg.enabled l = true)
    (a : s.part.perform l q = s.part.answer r) : s.request l q = s.answered l q.type r := by
  rw [s.request_run l q h v m (fun _ => f), a]
  rfl

theorem doneOr_ne (n count : Nat) : doneOr (n != count) = if n = count then .done else .clamped := by
  by_cases h : n = count <;> simp [doneOr, h]

theorem getElem?_map_range {α : Type} (f : Nat → α) (n m : Nat) (h : m < n) :
    ((List.range n).map f)[m]? = some (f m) := by simp [h]

/-- The robots that a ROBOT QUERY reaches (R73). -/
theorem getElem?_robotNumbers (first n m : Nat) (hm : m < n) (h : first + m < 8) :
    ((robotNumbers.drop first).take n)[m]? = some (first + m) := by
  simp [robotNumbers, hm, h]

theorem Core.installed_eq (c : Core) (i : Nat) : c.installed i = c.cfg.installed.getLsbD i := by
  unfold Core.installed
  by_cases h : i < 8
  · simp [h]
  · simp [h, BitVec.getLsbD_of_ge _ _ (Nat.le_of_not_lt h)]

/-- The zone rows with both tests of a row in one. -/
theorem Core.zoneRows_eq (c : Core) (z : Nat) :
    c.zoneRows z = (List.range 96).filter (fun r => decide (r < c.cfg.rows) && c.zoneOf r == z) := by
  simp only [Core.zoneRows, Core.presentRows, List.filter_filter, Core.present, Bool.and_comm]

theorem getLsbD_rowSetBytes (m : RowSet) (r : Nat) (h : r < 96) :
    ((rowSetBytes m).getD (r / 8) 0).getLsbD (r % 8) = m.getLsbD r := by
  have byte : r / 8 < 12 := by omega
  have bit : r % 8 < 8 := Nat.mod_lt _ (by decide)
  simp [rowSetBytes, List.getD_eq_getElem?_getD, byte, bit, Nat.div_add_mod]

/-- A slot as ROUND QUERY returns it, by the kind of its round (R118). -/
theorem Slot.entry_eq (x : Slot) : x.entry = ⟨x.state, x.endReason, x.spec, x.robot, x.link,
    match x.spec with
      | some (.span _ _ _) => some x.nextIndex
      | some (.due _ _ _) | none => none,
    rowSetBytes x.skipSet, x.current, x.cleaned, x.skipped,
    match x.spec with
      | some (.due _ _ _) => none
      | some (.span _ _ _) | none => some x.remaining,
    x.pausePending⟩ := by
  unfold Slot.entry Slot.isSpan Slot.kind
  rcases x.spec with _ | ⟨_ | _⟩ <;> rfl

theorem Core.toList_slots (c : Core) : c.slots.toList = [c.slot 0, c.slot 1, c.slot 2, c.slot 3] := by
  apply List.ext_getElem
  · simp
  · intro i h _
    have : i < 4 := by simpa using h
    rcases i with _ | _ | _ | _ | i
    · rfl
    · rfl
    · rfl
    · rfl
    · omega

theorem Core.mem_forcedTimers (c : Core) (r z n : Nat) :
    (r, z, n) ∈ c.presentRows.filterMap (fun r => (c.row r).forcedTimer.map (fun n => (r, c.zoneOf r, n)))
      ↔ r < c.cfg.rows ∧ r < 96 ∧ z = c.zoneOf r ∧ (c.row r).forcedTimer = some n := by
  simp only [List.mem_filterMap, Option.map_eq_some_iff, Prod.mk.injEq, Core.presentRows, List.mem_filter,
    List.mem_range, Core.present, decide_eq_true_eq]
  constructor
  · rintro ⟨r', ⟨h96, hr⟩, n', hn, rfl, rfl, rfl⟩
    exact ⟨hr, h96, rfl, hn⟩
  · rintro ⟨hr, h96, rfl, hn⟩
    exact ⟨r, ⟨h96, hr⟩, n, hn, rfl, rfl, rfl⟩

theorem reqPermitQuery_absent (c : Core) (first count : Nat) (form : QueryForm) (h : c.cfg.rows ≤ first) :
    reqPermitQuery first count form c = refuse .badRow := by
  have absent : c.present first = false := decide_eq_false (Nat.not_lt.mpr h)
  simp [reqPermitQuery, absent]

theorem reqPermitQuery_summary (c : Core) (first count : Nat) (h : first < c.cfg.rows) :
    reqPermitQuery first count .summary c =
      ⟨doneOr (queryCount 96 c.cfg.rows first count != count),
        .summaries first (queryCount 96 c.cfg.rows first count)
          ((List.range (queryCount 96 c.cfg.rows first count)).map (fun i => c.rowSummary (first + i)))⟩ := by
  have present : c.present first = true := decide_eq_true h
  simp [reqPermitQuery, present]

theorem reqPermitQuery_detail (c : Core) (first count : Nat) (h : first < c.cfg.rows) :
    reqPermitQuery first count .detail c =
      ⟨doneOr (queryCount 16 c.cfg.rows first count != count),
        .details first (queryCount 16 c.cfg.rows first count)
          ((List.range (queryCount 16 c.cfg.rows first count)).map (fun i => c.rowDetail (first + i)))⟩ := by
  have present : c.present first = true := decide_eq_true h
  simp [reqPermitQuery, present]

theorem reqRobotQuery_present (c : Core) (first count : Nat) (h : first ≤ 7) :
    reqRobotQuery first count c =
      ⟨doneOr (min (max count 1) (8 - first) != count),
        .robots (((robotNumbers.drop first).take (min (max count 1) (8 - first))).map
          (fun i => (c.installed i, c.robot i)))⟩ := if_neg (Nat.not_lt.mpr h)

end Sys2Proof.Machine

namespace Sys2Proof.Proofs

open Sys2Proof.Machine

/-- Settles O49: each query passes the dispatch and answers from the state; what is left is to read its reply. -/
theorem queries : Obligations.Queries := by
  intro s l hrun c answers rowsAsked result inWindow inZone zoneRows
  refine ⟨?status, fun en => ?_⟩
  case status =>
    refine congrArg Host.Outcome.next ?_
    rw [s.request_run l .status hrun rfl rfl (fun h => nomatch h)]
    simp only [Part.perform, Part.status, Core.status, hrun]
    rfl
  have answered : ∀ (i : Instr) (q : Request) (r : Reply), requestOf i = some (l, q) → validOn q.type l = true →
      Request.malformed q = false → s.part.perform l q = s.part.answer r → answers i q.type r := by
    intro i q r hi v m a
    show exec i s = _
    rw [exec_request i l q hi, s.request_answered l q r hrun v m en a]
  refine ⟨?rowAbsent, ?summary, ?detail, ?robotAbsent, ?robots, ?carriage, ?rounds, ?hazards, ?zones⟩
  case rowAbsent =>
    intro first count form h
    exact answered _ (.permitQuery first count (some form)) _ rfl rfl rfl
      (congrArg s.part.answer (reqPermitQuery_absent c first count form h))
  case summary =>
    intro first count h
    refine ⟨_, answered _ (.permitQuery first count (some .summary)) _ rfl rfl rfl
      (congrArg s.part.answer ((reqPermitQuery_summary c first count h).trans (by rw [doneOr_ne]; rfl))), ?_, ?_⟩
    · simp [queryCount, rowsAsked]
    · intro m hm
      exact getElem?_map_range _ _ _ hm
  case detail =>
    intro first count h
    refine ⟨_, answered _ (.permitQuery first count (some .detail)) _ rfl rfl rfl
      (congrArg s.part.answer ((reqPermitQuery_detail c first count h).trans (by rw [doneOr_ne]; rfl))), ?_, ?_⟩
    · simp [queryCount, rowsAsked]
    · intro m hm
      exact getElem?_map_range _ _ _ hm
  case robotAbsent =>
    intro first count h
    exact answered _ (.robotQuery first count) _ rfl rfl rfl (congrArg s.part.answer (if_pos h))
  case robots =>
    intro first count h
    refine ⟨_, answered _ (.robotQuery first count) _ rfl rfl rfl
      (congrArg s.part.answer ((reqRobotQuery_present c first count h).trans (by rw [doneOr_ne]))), ?_, ?_⟩
    · simp [robotNumbers]
    · intro m hm
      rw [List.getElem?_map, getElem?_robotNumbers first _ m hm (by omega), Option.map_some, Core.installed_eq]
  case carriage => exact answered _ .carriageQuery _ rfl rfl rfl rfl
  case rounds =>
    refine ⟨fun k => rowSetBytes (c.slot k).skipSet, answered _ .roundQuery _ rfl rfl rfl
      (congrArg s.part.answer ?_), fun k _ => ⟨by simp [rowSetBytes], fun r hr => getLsbD_rowSetBytes _ r hr⟩⟩
    simp only [reqRoundQuery, Core.toList_slots, List.map_cons, List.map_nil, Slot.entry_eq]
    rfl
  case hazards => exact answered _ .hazardQuery _ rfl rfl rfl rfl
  case zones =>
    refine ⟨_, _, answered _ .zoneQuery _ rfl rfl rfl rfl, by simp [zoneNumbers], ?_, c.mem_forcedTimers⟩
    intro z hz
    have notStow : ∀ p : Permit, decide (p ≠ .stow) = (p != .stow) := fun p => by cases p <;> rfl
    rw [zoneNumbers, getElem?_map_range _ _ _ hz]
    simp only [Core.zoneEntry, Core.zoneRows_eq, notStow]
    rfl

end Sys2Proof.Proofs
end

section
/-! SUPPORT. What an event leaves alone whose hand-offs evaluate zones: the kept core but for the zones. -/

namespace Sys2Proof.Machine

/-- A hand-off that changes nothing of `Core.keptButZones`: every one but the pass credit. -/
@[reducible] def Handoff.keepsAccounts : Handoff → Bool
  | .passCredit _ => false
  | _ => true

theorem keptButZones_of_kept {c d : Core} (h : c.kept = d.kept) : c.keptButZones = d.keptButZones := by
  simp only [Core.keptButZones, h]

@[simp] theorem keptButZones_modZone (c : Core) (z : Nat) (f : ZoneRec → ZoneRec) :
    (c.modZone z f).keptButZones = c.keptButZones := rfl

theorem keepsAccounts_of_plain (h : Handoff) (p : h.plain = true) : h.keepsAccounts = true := by
  cases h with
  | passCredit => exact nomatch p
  | _ => rfl

/-- What an unchanged view says of an event that had no hand-offs. -/
theorem keptButZones_of_view {e e' : Ev} (v : e'.view = e.view) (w : e.work = []) :
    e'.core.keptButZones = e.core.keptButZones ∧ e'.work.all Handoff.plain = true := by
  simp only [Ev.view, w, Prod.mk.injEq, List.all_nil] at v
  exact ⟨keptButZones_of_kept v.1, v.2⟩

/-- A zone evaluation changes zones alone of what is kept, and hands on plain hand-offs (R136). -/
theorem keptButZones_evalZone (e : Ev) (z : Nat) (b : Bool) (w : e.work = []) :
    (e.evalZone z b).core.keptButZones = e.core.keptButZones ∧ (e.evalZone z b).work.all Handoff.plain = true := by
  obtain ⟨stopKept, stopPlain⟩ := keptButZones_of_view (view_stopForced e z) w
  unfold Ev.evalZone
  dsimp only
  generalize levelChange (e.core.zone z).level (e.core.zoneLevel z) = change
  cases change <;>
    simp only [Ev.core_handAll, Ev.work_handAll, Ev.core_mod, Ev.work_mod, List.all_append, keptButZones_modZone]
  case relief | release => exact ⟨stopKept, by rw [stopPlain]; rfl⟩
  case onset | escalation => exact ⟨trivial, by rw [w]; rfl⟩
  case none => exact ⟨trivial, by rw [w]; cases b <;> rfl⟩

/-- A hand-off that is no pass credit changes nothing of the kept core but zones, and hands on plain hand-offs. -/
theorem keptButZones_handle (e : Ev) (h : Handoff) (p : h.keepsAccounts = true) (w : e.work = []) :
    (e.handle h).core.keptButZones = e.core.keptButZones ∧ (e.handle h).work.all Handoff.plain = true := by
  by_cases q : h.plain = true
  · exact keptButZones_of_view (view_handle e h q) w
  · cases h with
    | passCredit => exact nomatch p
    | evalZone z b => exact keptButZones_evalZone e z b w
    | _ => exact absurd rfl q

/-- Plain hand-offs delivered one after another at their blocks leave the view alone. -/
theorem view_foldl_handle (hs : List Handoff) (e : Ev) (p : ∀ h ∈ hs, h.plain = true) :
    (hs.foldl Ev.handle e).view = e.view := by
  induction hs generalizing e with
  | nil => rfl
  | cons h hs ih =>
    rw [List.foldl_cons, ih _ (fun g m => p g (List.mem_cons_of_mem _ m)), view_handle _ _ (p h List.mem_cons_self)]

/-- Settling changes nothing of the kept core but zones, and leaves no pass credit that was not there. -/
theorem keptButZones_settle (e : Ev) (p : ∀ h ∈ e.work, h.keepsAccounts = true) :
    e.settle.core.keptButZones = e.core.keptButZones ∧ ∀ h ∈ e.settle.work, h.keepsAccounts = true := by
  have settling : ∀ h ∈ e.work.takeWhile Handoff.settles, h.plain = true := fun h m =>
    plain_of_settles h (List.all_eq_true.mp List.all_takeWhile h m)
  obtain ⟨kept, plain⟩ := keptButZones_of_view (view_foldl_handle _ { e with work := [] } settling) rfl
  refine ⟨kept, fun h m => ?_⟩
  rcases List.mem_append.mp m with m | m
  · exact keepsAccounts_of_plain h (List.all_eq_true.mp plain h m)
  · exact p h ((List.dropWhile_sublist _).subset m)

/-- Delivering hand-offs that are no pass credits changes nothing of the kept core but zones. -/
theorem keptButZones_drain (n : Nat) (e : Ev) (p : ∀ h ∈ e.work, h.keepsAccounts = true) :
    (e.drain n).core.keptButZones = e.core.keptButZones := by
  induction n generalizing e with
  | zero => rfl
  | succ n ih =>
    have each : ∀ (hs : List Handoff) (e : Ev), (∀ h ∈ hs, h.keepsAccounts = true) → e.work = [] →
        (hs.foldl (fun e h => Ev.drain n (Ev.handle e h)) e).core.keptButZones = e.core.keptButZones := by
      intro hs
      induction hs with
      | nil => intro e _ _; rfl
      | cons h hs ihs =>
        intro e p w
        obtain ⟨kept, plain⟩ := keptButZones_handle e h (p h List.mem_cons_self) w
        rw [List.foldl_cons, ihs _ (fun g m => p g (List.mem_cons_of_mem _ m)) (work_drain n _),
          ih _ (fun g m => keepsAccounts_of_plain g (List.all_eq_true.mp plain g m)), kept]
    obtain ⟨kept, keeps⟩ := keptButZones_settle e p
    exact (each e.settle.work { e.settle with work := [] } keeps rfl).trans kept

/-- What an event leaves alone that hands on no pass credit: nothing of the kept core but zones changes after its own
effects, but PARK_OUT, which follows the zones. -/
theorem keptButZones_finish (p : Part) (e : Ev) (w : ∀ h ∈ e.work, h.keepsAccounts = true) :
    (p.finish e).core.keptButZones = { e.core.keptButZones with parkOut := (p.finish e).core.parkOut } := by
  have k : (e.deliver.endTests p.core).core.keptButZones = e.core.keptButZones :=
    (keptButZones_of_kept (kept_endTests _ _ (work_drain _ _))).trans (keptButZones_drain _ e w)
  rw [← k]
  rfl

/-- An event that hands on no pass credit leaves the part state and the configuration in force as its own effects do. -/
theorem phase_finish (p : Part) (e : Ev) (w : ∀ h ∈ e.work, h.keepsAccounts = true) :
    (p.finish e).core.phase = e.core.phase :=
  (congrArg Core.phase (keptButZones_finish p e w) :)

theorem cfg_finish (p : Part) (e : Ev) (w : ∀ h ∈ e.work, h.keepsAccounts = true) :
    (p.finish e).core.cfg = e.core.cfg :=
  (congrArg Core.cfg (keptButZones_finish p e w) :)

end Sys2Proof.Machine
end

section
/-! PROOFS. One tracker report (R8, R25, R26, R33, R34): what the permit rules make of the row and of the robots on its
panels, said once, and the report of a guarded row. -/

namespace Sys2Proof.Machine

/-! ### Rows and robots -/

theorem Core.modRow_self (c : Core) (r : Nat) (f : RowRec → RowRec) (h : f (c.row r) = c.row r) : c.modRow r f = c := by
  have e : upd c.rows r f = c.rows := by
    rw [upd_congr c.rows {} r f id h]
    unfold upd
    split
    · simp
    · rfl
  simp only [Core.modRow, e]

/-- The core with the robot records replaced. -/
def Core.withRobots (c : Core) (rs : Vector Robot 8) : Core := { c with robots := rs }

@[simp] theorem Core.robot_withRobots (c : Core) (rs : Vector Robot 8) (i : Nat) :
    (c.withRobots rs).robot i = look rs {} i := rfl
@[simp] theorem Core.row_withRobots (c : Core) (rs : Vector Robot 8) (r : Nat) : (c.withRobots rs).row r = c.row r := rfl
@[simp] theorem Core.cfg_withRobots (c : Core) (rs : Vector Robot 8) : (c.withRobots rs).cfg = c.cfg := rfl
@[simp] theorem Core.modRow_withRobots (c : Core) (rs : Vector Robot 8) (r : Nat) (f : RowRec → RowRec) :
    (c.withRobots rs).modRow r f = (c.modRow r f).withRobots rs := rfl

/-- Orders to anchor given to the robots of a list: records change in their last order and return flag alone. -/
theorem each_orderHere (is : List Nat) (e : Ev) (o : Order) :
    ∃ rs : Vector Robot 8,
      (e.each is (fun i e => e.orderHere i o)).core = e.core.withRobots rs
      ∧ (e.each is (fun i e => e.orderHere i o)).work = e.work
      ∧ (∀ i, (look rs {} i).kept = (e.core.robot i).kept)
      ∧ (∀ i, i ∉ is → look rs {} i = e.core.robot i)
      ∧ ∀ i ∈ is, i < 8 → (look rs {} i).lastOrder = some (o, (e.core.robot i).row) := by
  induction is generalizing e with
  | nil => exact ⟨e.core.robots, rfl, rfl, fun _ => rfl, fun _ _ => rfl, fun i m => absurd m (by simp)⟩
  | cons i is ih =>
    obtain ⟨rs, core, work, kept, others, ordered⟩ := ih (e.orderHere i o)
    have first : ∀ j, ((e.orderHere i o).core.robot j).kept = (e.core.robot j).kept := by
      intro j
      rw [orderHere_eq, order_eq, Core.robot_modRobot]
      split <;> rfl
    have row : ∀ j, ((e.orderHere i o).core.robot j).row = (e.core.robot j).row := fun j => (congrArg Robot.row (first j) :)
    refine ⟨rs, core, work, fun j => (kept j).trans (first j), fun j m => ?_, fun j m hj => ?_⟩
    · rw [List.mem_cons, not_or] at m
      rw [others j m.2, orderHere_eq, order_eq, Core.robot_modRobot, if_neg (fun h => m.1 h.1)]
    · by_cases later : j ∈ is
      · rw [ordered j later hj, row]
      · obtain rfl : j = i := (List.mem_cons.mp m).resolve_right later
        rw [others j later, orderHere_eq, order_eq, Core.robot_modRobot, if_pos ⟨rfl, hj⟩]

theorem Core.mem_unanchored {c : Core} {r i : Nat} :
    i ∈ c.unanchored r ↔ i ∈ c.occupancy r ∧ (c.robot i).state ≠ .anchored := by
  simp [Core.unanchored, Core.anchored]

theorem RowRec.breach_self (x : RowRec) (b : Bool) (h : b = x.breach) : { x with breach := b } = x := by
  subst h
  rfl

/-! ### Breach (R33, R34) -/

/-- A breach found sets the flag, and where it was clear orders the robots of the row that are not ANCHORED to anchor
(R33). -/
theorem breachFound_spec (e : Ev) (r : Nat) :
    ∃ rs : Vector Robot 8,
      (e.breachFound r).core = (e.core.modRow r (fun x => { x with breach := true })).withRobots rs
      ∧ (e.breachFound r).work = e.work
      ∧ (∀ i, (look rs {} i).kept = (e.core.robot i).kept)
      ∧ ((e.core.row r).breach = false → ∀ i ∈ e.core.unanchored r,
          (look rs {} i).lastOrder = some (.anchor, (e.core.robot i).row)) := by
  unfold Ev.breachFound
  dsimp only
  split
  case isTrue h =>
    refine ⟨e.core.robots, ?_, rfl, fun _ => rfl, fun b => absurd (h.symm.trans b) (by simp)⟩
    rw [Core.modRow_self _ _ _ (RowRec.breach_self _ _ h.symm)]
    rfl
  case isFalse h =>
    obtain ⟨rs, core, work, kept, -, ordered⟩ := each_orderHere (e.core.unanchored r)
      ((e.modRow r (fun x => { x with breach := true })).note
        (.holdBreach r (e.core.row r).angle (e.core.row r).tracker true)) .anchor
    refine ⟨rs, core, work, kept, fun _ i m => ordered i m ?_⟩
    have number : i ∈ robotNumbers := (List.mem_filter.mp (Core.mem_unanchored.mp m).1).1
    exact List.mem_range.mp number

/-- A report inside the hold window clears the flag (R34). -/
theorem breachEnded_spec (e : Ev) (r : Nat) :
    (e.breachEnded r).core = e.core.modRow r (fun x => { x with breach := x.breach && !e.core.inWindow r })
    ∧ (e.breachEnded r).work = e.work := by
  unfold Ev.breachEnded
  dsimp only
  split
  case isTrue h =>
    refine ⟨?_, rfl⟩
    rw [Bool.and_eq_true] at h
    rw [Ev.core_note, Ev.core_modRow]
    exact Core.modRow_congr _ _ _ _ (by rw [h.2]; simp)
  case isFalse h =>
    refine ⟨(Core.modRow_self _ _ _ ?_).symm, rfl⟩
    exact RowRec.breach_self _ _ (by cases hb : (e.core.row r).breach <;> simp_all)

/-! ### The permit rules (R25, R26, R33, R34) -/

/-- The permit, the guard and what follows from them after a report on a row, `held` being the condition of R25. -/
def RowRec.guarded (x : RowRec) (held : Bool) (guard : Nat) : RowRec :=
  if x.permit = .holdReq ∧ held = true then RowRec.withPermit { x with guard := some guard } .guardIn
  else if x.permit = .guardIn ∧ held = false then RowRec.withPermit { x with guard := none } .holdReq
  else x

/-- The breach flag after a report on a row: set by a breach angle, `found`, and cleared inside the hold window. -/
def RowRec.breachAfter (x : RowRec) (found inside : Bool) : RowRec := { x with breach := (x.breach || found) && !inside }

theorem RowRec.angle_guarded (x : RowRec) (held : Bool) (guard : Nat) : (x.guarded held guard).angle = x.angle := by
  unfold RowRec.guarded
  repeat' split
  all_goals rfl

theorem RowRec.breach_guarded (x : RowRec) (held : Bool) (guard : Nat) : (x.guarded held guard).breach = x.breach := by
  unfold RowRec.guarded
  repeat' split
  all_goals simp [RowRec.withPermit, RowRec.compareMode]

/-- The hold window and the breach angle look at the angle of the row alone. -/
theorem Core.inWindow_congr {c d : Core} {r : Nat} (a : (c.row r).angle = (d.row r).angle) (s : c.cfg = d.cfg) :
    c.inWindow r = d.inWindow r := by simp only [Core.inWindow, a, s]

theorem Core.breachAngle_congr {c d : Core} {r : Nat} (a : (c.row r).angle = (d.row r).angle) (s : c.cfg = d.cfg) :
    c.breachAngle r = d.breachAngle r := by simp only [Core.breachAngle, a, s]

/-- The first step of the permit rules moves the permit of an unclaimed row, and hands nothing on. -/
def Ev.guardRules (e : Ev) (r : Nat) : Ev :=
  if (e.core.row r).permit = .holdReq ∧ e.core.held r = true then
    (e.modRow r (fun x => { x with guard := some e.core.cfg.guard })).setPermit r .guardIn
  else if (e.core.row r).permit = .guardIn ∧ e.core.held r = false then
    (e.modRow r (fun x => { x with guard := none })).setPermit r .holdReq
  else e

theorem permitRules_eq (e : Ev) (r : Nat) : e.permitRules r =
    (if Permit.guards (e.core.row r).permit && (e.guardRules r).core.breachAngle r then (e.guardRules r).breachFound r
      else e.guardRules r).breachEnded r := rfl

theorem handChange_modRow (c : Core) (r : Nat) (f : RowRec → RowRec) (h : (c.row r).claim = none)
    (g : ∀ x, (f x).claim = x.claim) : ((c.modRow r f).row r).handChange r = [] := by
  have claim : ((c.modRow r f).row r).claim = none := (c.field_modRow RowRec.claim r r f g).trans h
  simp [RowRec.handChange, claim]

theorem guardRules_spec (e : Ev) (r : Nat) (unclaimed : (e.core.row r).claim = none) :
    (e.guardRules r).core = e.core.modRow r (fun x => x.guarded (e.core.held r) e.core.cfg.guard)
    ∧ (e.guardRules r).work = e.work := by
  have moves : ∀ (g : Option Nat) (p : Permit),
      ((e.modRow r (fun x => { x with guard := g })).setPermit r p).core
        = e.core.modRow r (fun x => RowRec.withPermit { x with guard := g } p)
      ∧ ((e.modRow r (fun x => { x with guard := g })).setPermit r p).work = e.work := by
    intro g p
    have quiet := handChange_modRow e.core r (fun x => { x with guard := g }) unclaimed (fun _ => rfl)
    exact ⟨Core.modRow_modRow .., (congrArg (e.work ++ ·) quiet).trans (List.append_nil _)⟩
  unfold Ev.guardRules
  split
  case isTrue h =>
    rw [(moves _ _).1, (moves _ _).2]
    exact ⟨Core.modRow_congr _ _ _ _ (by rw [RowRec.guarded, if_pos h]), rfl⟩
  case isFalse h =>
    split
    case isTrue g =>
      rw [(moves _ _).1, (moves _ _).2]
      exact ⟨Core.modRow_congr _ _ _ _ (by rw [RowRec.guarded, if_neg h, if_pos g]), rfl⟩
    case isFalse g =>
      exact ⟨(Core.modRow_self _ _ _ (by rw [RowRec.guarded, if_neg h, if_neg g])).symm, rfl⟩

/-- The permit rules after a report on an unclaimed row: what they make of its record and of the orders of the robots on its
panels. They hand nothing on. -/
theorem permitRules_spec (e : Ev) (r : Nat) (unclaimed : (e.core.row r).claim = none) :
    ∃ rs : Vector Robot 8,
      (e.permitRules r).core = (e.core.modRow r (fun x => (x.guarded (e.core.held r) e.core.cfg.guard).breachAfter
          (Permit.guards (e.core.row r).permit && e.core.breachAngle r) (e.core.inWindow r))).withRobots rs
      ∧ (e.permitRules r).work = e.work
      ∧ (∀ i, (look rs {} i).kept = (e.core.robot i).kept)
      ∧ ((Permit.guards (e.core.row r).permit && e.core.breachAngle r) = true → (e.core.row r).breach = false →
          ∀ i ∈ e.core.unanchored r, (look rs {} i).lastOrder = some (.anchor, (e.core.robot i).row)) := by
  obtain ⟨core, work⟩ := guardRules_spec e r unclaimed
  have angle : ((e.guardRules r).core.row r).angle = (e.core.row r).angle := by
    rw [core]
    exact e.core.field_modRow RowRec.angle r r _ (fun x => x.angle_guarded _ _)
  have flag : ((e.guardRules r).core.row r).breach = (e.core.row r).breach := by
    rw [core]
    exact e.core.field_modRow RowRec.breach r r _ (fun x => x.breach_guarded _ _)
  have robots : (e.guardRules r).core.robots = e.core.robots := by rw [core]; rfl
  have cfg : (e.guardRules r).core.cfg = e.core.cfg := by rw [core]; rfl
  rw [permitRules_eq, Core.breachAngle_congr angle cfg]
  split
  case isTrue found =>
    obtain ⟨rs, core', work', kept, ordered⟩ := breachFound_spec (e.guardRules r) r
    obtain ⟨core'', work''⟩ := breachEnded_spec ((e.guardRules r).breachFound r) r
    have angle' : (((e.guardRules r).breachFound r).core.row r).angle = (e.core.row r).angle := by
      rw [core', Core.row_withRobots, Core.field_modRow RowRec.angle, angle]
      exact fun _ => rfl
    have cfg' : ((e.guardRules r).breachFound r).core.cfg = e.core.cfg := by rw [core']; exact cfg
    have unanchored : (e.guardRules r).core.unanchored r = e.core.unanchored r := by rw [core]; rfl
    have robot : (e.guardRules r).core.robot = e.core.robot := by funext i; simp only [Core.robot, robots]
    rw [robot] at kept ordered
    rw [flag, unanchored] at ordered
    refine ⟨rs, ?_, work''.trans (work'.trans work), kept, fun _ => ordered⟩
    rw [core'', Core.inWindow_congr angle' cfg', core', core, found]
    simp only [RowRec.breachAfter, Bool.or_true, Bool.true_and, Core.modRow_withRobots, Core.modRow_modRow]
  case isFalse found =>
    obtain ⟨core'', work''⟩ := breachEnded_spec (e.guardRules r) r
    refine ⟨e.core.robots, ?_, work''.trans work, fun _ => rfl, fun f => absurd f found⟩
    rw [core'', Core.inWindow_congr angle cfg, core, Core.modRow_modRow, Bool.eq_false_iff.mpr found]
    simp only [RowRec.breachAfter, Bool.or_false]
    rfl

/-! ### A tracker report entry (R8) -/

/-- The fields of a report are written before the permit rules are evaluated, whether the row was silent or not. -/
theorem trackerEvent_eq (x : TrackerEntry) (c : Core) : ∃ e : Ev, e.core = c.reported x ∧ e.work = []
    ∧ trackerEvent x c = (e.permitRules x.row).modRow x.row RowRec.compareMode := by
  unfold trackerEvent Ev.applyReport
  dsimp only
  split
  · exact ⟨_, rfl, rfl, rfl⟩
  · exact ⟨_, rfl, rfl, rfl⟩

/-- The record of a row after a report, `c` being the core with the report's fields written. -/
def Core.ruled (c : Core) (r : Nat) : RowRec :=
  RowRec.compareMode (((c.row r).guarded (c.held r) c.cfg.guard).breachAfter
    (Permit.guards (c.row r).permit && c.breachAngle r) (c.inWindow r))

/-- A report on an unclaimed row of a CLEAR zone ends calmly: one row record and orders change. -/
theorem trackerEvent_spec (x : TrackerEntry) (c : Core) (r96 : x.row < 96) (unclaimed : (c.row x.row).claim = none) :
    ∃ rs : Vector Robot 8,
      (trackerEvent x c).core = (c.modRow x.row (fun _ => (c.reported x).ruled x.row)).withRobots rs
      ∧ (trackerEvent x c).work = []
      ∧ (∀ i, (look rs {} i).kept = (c.robot i).kept)
      ∧ ((Permit.guards (c.row x.row).permit && (c.reported x).breachAngle x.row) = true → (c.row x.row).breach = false →
          ∀ i ∈ c.unanchored x.row, (look rs {} i).lastOrder = some (.anchor, (c.robot i).row)) := by
  obtain ⟨e, core, work, event⟩ := trackerEvent_eq x c
  have same : ∀ {β : Type} (g : RowRec → β), (∀ y, g { y with
      angle := reportedAngle x.angle, tracker := x.state.getD .unknown, age := some 0
      silence := some c.cfg.trackerSilence, silent := false } = g y) →
      g ((c.reported x).row x.row) = g (c.row x.row) := fun g h => c.field_modRow g x.row x.row _ h
  obtain ⟨rs, core', work', kept, ordered⟩ :=
    permitRules_spec e x.row (by rw [core, same RowRec.claim (fun _ => rfl), unclaimed])
  rw [core] at core' kept ordered
  rw [same RowRec.permit (fun _ => rfl), same RowRec.breach (fun _ => rfl)] at ordered
  refine ⟨rs, ?_, ?_, kept, ordered⟩
  · rw [event, Ev.core_modRow, core', Core.modRow_withRobots, Core.modRow_modRow]
    have written : (c.reported x).row x.row = _ := c.row_modRow_same x.row _ r96
    refine congrArg (Core.withRobots · rs) ((c.modRow_modRow x.row _ _).trans (c.modRow_congr x.row _ _ ?_))
    rw [Core.ruled, written]
  · rw [event, Ev.work_modRow, work', work]

section
variable (c : Core) (x : TrackerEntry) (r96 : x.row < 96)
include r96

theorem Core.row_reported : (c.reported x).row x.row = { c.row x.row with
    angle := reportedAngle x.angle, tracker := x.state.getD .unknown, age := some 0
    silence := some c.cfg.trackerSilence, silent := false } := c.row_modRow_same x.row _ r96

theorem Core.inWindow_reported : (c.reported x).inWindow x.row = true
    ↔ ∃ a, reportedAngle x.angle = some a ∧ (a - c.cfg.crossing).natAbs ≤ c.cfg.crossTol := by
  rw [Core.inWindow, c.row_reported x r96]
  cases reportedAngle x.angle with
  | none => simp
  | some a => simp only [Option.some.injEq, exists_eq_left']; exact decide_eq_true_iff

theorem Core.breachAngle_reported : (c.reported x).breachAngle x.row = true
    ↔ ∃ a, reportedAngle x.angle = some a ∧ c.cfg.breachTol < (a - c.cfg.crossing).natAbs := by
  rw [Core.breachAngle, c.row_reported x r96]
  cases reportedAngle x.angle with
  | none => simp
  | some a => simp only [Option.some.injEq, exists_eq_left']; exact decide_eq_true_iff

theorem Core.held_reported : (c.reported x).held x.row = true
    ↔ (c.reported x).inWindow x.row = true ∧ (x.state = some .holding ∨ x.state = some .fault) := by
  rw [Core.held, c.row_reported x r96, Bool.and_eq_true]
  rcases x.state with _ | st
  · simp
  · simp

end

/-- Of a row record the permit rules of a report move the permit, the guard and the breach flag, and the mixed flag after
them. -/
theorem Core.ruled_kept (c : Core) (r : Nat) :
    (c.ruled r).approach = (c.row r).approach ∧ (c.ruled r).pending = (c.row r).pending
      ∧ (c.ruled r).boarding = (c.row r).boarding ∧ (c.ruled r).forced = (c.row r).forced := by
  unfold Core.ruled RowRec.guarded
  split
  case isTrue h => exact ⟨rfl, rfl, rfl, by simp [RowRec.breachAfter, RowRec.compareMode, RowRec.withPermit, h.1]⟩
  case isFalse =>
    split
    case isTrue h => exact ⟨rfl, rfl, rfl, by simp [RowRec.breachAfter, RowRec.compareMode, RowRec.withPermit, h.1]⟩
    case isFalse => exact ⟨rfl, rfl, rfl, rfl⟩

theorem Core.breach_ruled (c : Core) (r : Nat) : (c.ruled r).breach =
    (((c.row r).breach || (Permit.guards (c.row r).permit && c.breachAngle r)) && !c.inWindow r) := by
  rw [← (c.row r).breach_guarded (c.held r) c.cfg.guard]
  rfl

/-- HOLD_REQ goes to GUARD_IN (R26). -/
theorem Core.ruled_holdReq (c : Core) (r : Nat) (p : (c.row r).permit = .holdReq) (h : c.held r = true) :
    (c.ruled r).permit = .guardIn ∧ (c.ruled r).guard = some c.cfg.guard := by
  rw [Core.ruled, RowRec.guarded, if_pos ⟨p, h⟩]
  exact ⟨rfl, rfl⟩

/-- GUARD_IN goes back to HOLD_REQ (R26). -/
theorem Core.ruled_guardIn (c : Core) (r : Nat) (p : (c.row r).permit = .guardIn) (h : c.held r = false) :
    (c.ruled r).permit = .holdReq ∧ (c.ruled r).guard = none := by
  rw [Core.ruled, RowRec.guarded, if_neg (fun q => by rw [p] at q; exact nomatch q.1), if_pos ⟨p, h⟩]
  exact ⟨rfl, rfl⟩

theorem Core.ruled_other (c : Core) (r : Nat) (a : ¬((c.row r).permit = .holdReq ∧ c.held r = true))
    (b : ¬((c.row r).permit = .guardIn ∧ c.held r = false)) :
    (c.ruled r).permit = (c.row r).permit ∧ (c.ruled r).guard = (c.row r).guard := by
  rw [Core.ruled, RowRec.guarded, if_neg a, if_neg b]
  exact ⟨rfl, rfl⟩

/-- A row that a decode passes is present. -/
theorem Core.lt_rows_of_decode {c : Core} {l : Link} {x : Right} {r : Nat} (h : c.decode l x r = none) :
    r < c.cfg.rows := by
  apply Decidable.byContradiction
  intro absent
  rw [Core.decode, Core.present, decide_eq_false absent] at h
  exact nomatch h

theorem Permit.guards_iff (p : Permit) : p.guards = true ↔ p = .guardIn ∨ p = .entry ∨ p = .guardOut := by
  cases p <;> simp [Permit.guards]

/-- A core that differs in one row record of a CLEAR zone, and in orders, is a calm change. -/
theorem Core.calm_modRow_withRobots (c : Core) (r : Nat) (f : RowRec → RowRec) (rs : Vector Robot 8)
    (clear : c.rowClear r = true) (kept : ∀ i, (look rs {} i).kept = (c.robot i).kept) :
    c.Calm ((c.modRow r f).withRobots rs) where
  zones := rfl
  hazards := rfl
  cfg := rfl
  robots i := ⟨(congrArg Robot.state (kept i) :), (congrArg Robot.row (kept i) :),
    (congrArg Robot.onPanelsAtLoss (kept i) :)⟩
  carriage := ⟨rfl, rfl⟩
  permits := (c.calm_modRow r f (fun _ => clear)).permits

end Sys2Proof.Machine

namespace Sys2Proof.Proofs

open Sys2Proof.Machine

/-- A report of one entry that its decode passes is the event of that entry. -/
theorem exec_trackerReport_one (s : State) (x : TrackerEntry) (hrun : s.part.core.phase = .run)
    (hT : s.part.core.cfg.linkT = true) (hrep : reportable x.state = true) (hbefore : x.before = [])
    (hdec : s.part.core.decode .T .report x.row = none) :
    exec (.trackerReport .T 1 [x]) s = .next ((s.ends (trackerEvent x s.part.core)).answered .T .trackerReport
      (({} : BatchCounts).add x none).reply) := by
  have form : Request.malformed (.trackerReport 1 [x]) = false := by simp [Request.malformed, hrep]
  have passed : s.part.core.entryAnswer x.row = none := (Core.entryAnswer_eq _ _ hT).trans hdec
  rw [exec_request _ .T (.trackerReport 1 [x]) rfl, s.request_run .T _ hrun rfl form (fun _ => hT)]
  simp only [Part.perform, Part.trackerReport, List.foldl_cons, List.foldl_nil,
    Part.batchEntry_passed _ _ _ hbefore passed]
  rfl

/-- Settles O4: the report ends calmly, so the row is what the permit rules make of it. -/
theorem trackerReportMovesGuardedRow : Obligations.TrackerReportMovesGuardedRow := by
  intro s x hrun hT hrep hbefore hdec hrows hclear hclaim
  have r96 : x.row < 96 := Nat.lt_of_lt_of_le (Core.lt_rows_of_decode hdec) hrows
  obtain ⟨rs, core, work, kept, ordered⟩ := trackerEvent_spec x s.part.core r96 hclaim
  have calm : s.part.core.Calm (trackerEvent x s.part.core).core := by
    rw [core]
    exact Core.calm_modRow_withRobots _ _ _ _ hclear kept
  have ends := exec_trackerReport_one s x hrun hT hrep hbefore hdec
  rw [State.ends_calm s _ work calm, core] at ends
  obtain ⟨t, ends, rows, robots⟩ : ∃ t, exec (.trackerReport .T 1 [x]) s = .next t
      ∧ (∀ q, t.part.core.row q = (s.part.core.modRow x.row (fun _ => (s.part.core.reported x).ruled x.row)).row q)
      ∧ ∀ i, t.part.core.robot i = look rs {} i := ⟨_, ends, fun _ => rfl, fun _ => rfl⟩
  refine ⟨t, ?_⟩
  intro c old new off inside breaching held
  have row : new = (c.reported x).ruled x.row := (rows x.row).trans (c.row_modRow_same x.row _ r96)
  have written := c.row_reported x r96
  have hin : (c.reported x).inWindow x.row = true ↔ inside := c.inWindow_reported x r96
  have hbr : (c.reported x).breachAngle x.row = true ↔ breaching := c.breachAngle_reported x r96
  have hheld : (c.reported x).held x.row = true ↔ held := (c.held_reported x r96).trans (and_congr_left' hin)
  have permit : ((c.reported x).row x.row).permit = old.permit := by rw [written]
  obtain ⟨approach, pending, boarding, forced⟩ := (c.reported x).ruled_kept x.row
  have breach := (c.reported x).breach_ruled x.row
  have notHeld : ¬held → (c.reported x).held x.row = false := fun h => Bool.eq_false_iff.mpr (fun e => h (hheld.mp e))
  have notInside : ¬inside → (c.reported x).inWindow x.row = false := fun h =>
    Bool.eq_false_iff.mpr (fun e => h (hin.mp e))
  rw [written] at approach pending boarding forced breach
  rw [row]
  refine ⟨ends, fun q hq => (rows q).trans (c.row_modRow_ne _ _ _ hq), approach, pending, boarding, forced,
    ?guardIn, ?holdReq, ?otherwise, ?inside, ?breaching, ?neither⟩
  case guardIn => exact fun p h => Core.ruled_holdReq _ _ (permit.trans p) (hheld.mpr h)
  case holdReq => exact fun p h => Core.ruled_guardIn _ _ (permit.trans p) (notHeld h)
  case otherwise =>
    intro a b
    obtain ⟨samePermit, sameGuard⟩ := (c.reported x).ruled_other x.row
      (fun h => a ⟨permit.symm.trans h.1, hheld.mp h.2⟩)
      (fun h => b ⟨permit.symm.trans h.1, fun e => Bool.eq_false_iff.mp h.2 (hheld.mpr e)⟩)
    rw [samePermit, sameGuard, written]
    exact ⟨rfl, rfl⟩
  case inside => exact fun h => by rw [breach, hin.mpr h]; simp
  case breaching =>
    intro h g p
    have found : (Permit.guards old.permit && (c.reported x).breachAngle x.row) = true := by
      rw [Bool.and_eq_true]
      exact ⟨old.permit.guards_iff.mpr p, hbr.mpr h⟩
    refine ⟨by rw [breach, found, notInside g]; simp, fun b i m a => ?_⟩
    rw [robots]
    exact ordered found b i (Core.mem_unanchored.mpr ⟨m, a⟩)
  case neither =>
    intro g n
    have quiet : (Permit.guards old.permit && (c.reported x).breachAngle x.row) = false := by
      rw [Bool.eq_false_iff, ne_eq, Bool.and_eq_true]
      exact fun h => n ⟨hbr.mp h.2, old.permit.guards_iff.mp h.1⟩
    rw [breach, quiet, notInside g, Bool.or_false]
    exact Bool.and_true _

end Sys2Proof.Proofs
end

section
/-! SUPPORT. The seconds of a tick (R11, log entry 6): what counting them changes, field by field, and what the expiry of each
timer does with a second left, with more time left and while stopped. -/

namespace Sys2Proof.Machine

/-! ### Counting the seconds -/

/-- The core with the seconds of its tick counted, field by field. -/
theorem Core.counted_eq (c : Core) : c.counted = { c with
    ticked := true
    census := if c.ticked then c.census else tick c.census
    review := if c.ticked then c.review else tick c.review
    save := if c.ticked then c.save else c.save.map (fun x => { x with timer := x.timer - 1 })
    rows := c.rows.map (fun x => { x with
      age := if c.ticked then x.age else ageAfter x.age
      silence := if c.ticked then x.silence else tick x.silence
      approach := if c.ticked then x.approach else tick x.approach
      guard := if c.ticked then x.guard else tick x.guard
      boarding := if c.ticked then x.boarding else tick x.boarding
      forcedTimer := if c.ticked then x.forcedTimer else tick x.forcedTimer })
    robots := c.robots.map (fun x => { x with silence := if c.ticked then x.silence else tick x.silence })
    carriage := { c.carriage with timer := if c.ticked then c.carriage.timer else tick c.carriage.timer } } := by
  cases h : c.ticked
  · rw [Core.counted_due c h]
    rfl
  · rw [Core.counted_ticked c h]
    cases c
    simp_all

/-! ### Expiries of a tick (section 4.2, log entry 6) -/

/-- A command that is the expiry of `timer`, with `met` as its other condition. -/
structure ExpiryOf (i : Instr) (timer : Core → Option Nat) (met : Core → Bool) : Prop where
  event : ∃ f : Core → Ev, ∀ s, exec i s = .next (s.event (fun c => c.atExpiry timer (met c) f))
  ticks : ∀ c : Core, timer c.counted = if c.ticked then timer c else tick (timer c)
  meets : ∀ c : Core, met c.counted = met c

section
variable {i : Instr} {timer : Core → Option Nat} {met : Core → Bool} (x : ExpiryOf i timer met) (s : State)
  (hrun : s.part.core.phase = .run)
include x hrun

/-- An expiry of a timer with a second left counts the seconds of the tick, and acts as on a part that has counted them. -/
theorem ExpiryOf.counts (m : met s.part.core = true) (one : timer s.part.core = some 1)
    (due : s.part.core.ticked = false) :
    exec i s = exec i (s.withPart { s.part with core := s.part.core.counted }) := by
  obtain ⟨f, event⟩ := x.event
  have zero : timer s.part.core.counted = some 0 := by rw [x.ticks, due, one]; rfl
  rw [event, event, State.event_run _ _ hrun, State.event_run _ _ (s.part.core.phase_counted.trans hrun)]
  simp only [State.part_withPart, x.meets, m]
  rw [Core.atExpiry_counts _ _ _ one zero, Core.atExpiry_now _ _ _ zero]
  simp only [State.ends, State.withPart, finish_counted]

/-- An expiry of a timer that is stopped or has more time left, or whose other condition does not hold, changes nothing. -/
theorem ExpiryOf.idle (h : met s.part.core = false ∨ timer s.part.core = none
      ∨ ∃ n, timer s.part.core = some n ∧ (2 ≤ n ∨ (n = 1 ∧ s.part.core.ticked = true))) :
    exec i s = .next (s.told s.part.core []) := by
  obtain ⟨f, event⟩ := x.event
  have ticks := x.ticks s.part.core
  have start : s.part.core.atExpiry timer (met s.part.core) f = Ev.start s.part.core := by
    rcases h with m | stopped | ⟨n, left, more | ⟨rfl, counted⟩⟩
    · rw [m, Core.atExpiry_unmet]
    · rw [stopped] at ticks
      exact Core.atExpiry_early _ _ _ _ (by rw [stopped]; rfl) (by rw [ticks]; split <;> rfl)
    · rw [left] at ticks
      obtain ⟨k, rfl⟩ : ∃ k, n = k + 2 := ⟨n - 2, by omega⟩
      exact Core.atExpiry_early _ _ _ _ (by rw [left]; rfl) (by rw [ticks]; split <;> rfl)
    · rw [left, counted] at ticks
      exact Core.atExpiry_early _ _ _ _ (by rw [left]; rfl) (by rw [ticks]; rfl)
  rw [event, State.event_run _ _ hrun, start, State.ends_calm s _ rfl (Core.Calm.refl _)]
  rfl

end

theorem expiry_trackerSilence (r : Nat) :
    ExpiryOf (.trackerSilenceExpiry r) (fun c => (c.row r).silence) (fun c => c.present r) where
  event := ⟨_, fun _ => rfl⟩
  ticks c := by rw [Core.row_counted]; split <;> rfl
  meets c := by rw [Core.present, Core.cfg_counted]; rfl

theorem expiry_approach (r : Nat) : ExpiryOf (.approachExpiry r) (fun c => (c.row r).approach)
    (fun c => (c.row r).permit == .holdReq || (c.row r).permit == .guardIn) where
  event := ⟨_, fun _ => rfl⟩
  ticks c := by rw [Core.row_counted]; split <;> rfl
  meets c := by rw [Core.permit_counted]

theorem expiry_guardIn (r : Nat) :
    ExpiryOf (.guardInExpiry r) (fun c => (c.row r).guard) (fun c => (c.row r).permit == .guardIn) where
  event := ⟨_, fun _ => rfl⟩
  ticks c := by rw [Core.row_counted]; split <;> rfl
  meets c := by rw [Core.permit_counted]

theorem expiry_guardOut (r : Nat) :
    ExpiryOf (.guardOutExpiry r) (fun c => (c.row r).guard) (fun c => (c.row r).permit == .guardOut) where
  event := ⟨_, fun _ => rfl⟩
  ticks c := by rw [Core.row_counted]; split <;> rfl
  meets c := by rw [Core.permit_counted]

theorem expiry_boarding (r : Nat) :
    ExpiryOf (.boardingExpiry r) (fun c => (c.row r).boarding) (fun c => (c.row r).permit == .entry) where
  event := ⟨_, fun _ => rfl⟩
  ticks c := by rw [Core.row_counted]; split <;> rfl
  meets c := by rw [Core.permit_counted]

theorem expiry_forcedStow (r : Nat) : ExpiryOf (.forcedStowExpiry r) (fun c => (c.row r).forcedTimer) (fun _ => true) where
  event := ⟨_, fun _ => rfl⟩
  ticks c := by rw [Core.row_counted]; split <;> rfl
  meets _ := rfl

theorem expiry_robotSilence (i : Nat) : ExpiryOf (.robotSilenceExpiry i) (fun c => (c.robot i).silence) (fun _ => true) where
  event := ⟨_, fun _ => rfl⟩
  ticks c := by rw [Core.robot_counted]; split <;> rfl
  meets _ := rfl

theorem expiry_census : ExpiryOf .censusExpiry (fun c => c.census) (fun _ => true) where
  event := ⟨_, fun _ => rfl⟩
  ticks c := by rw [Core.counted_eq]
  meets _ := rfl

theorem expiry_hazardReview : ExpiryOf .hazardReviewBoundary (fun c => c.review) (fun _ => true) where
  event := ⟨_, fun _ => rfl⟩
  ticks c := by rw [Core.counted_eq]
  meets _ := rfl

theorem expiry_transferTimer : ExpiryOf .transferTimerExpiry (fun c => c.carriage.timer)
    (fun c => c.carriage.active.isSome && (c.carriage.state == .toPickup || c.carriage.state == .loaded)) where
  event := ⟨_, fun _ => rfl⟩
  ticks c := by rw [Core.carriage_counted]
  meets c := by rw [Core.carriage_counted]

theorem expiry_saveTimeout : ExpiryOf .saveTimeout (fun c => c.save.map (fun x => x.timer)) (fun _ => true) where
  event := ⟨_, fun _ => rfl⟩
  ticks c := by
    rw [Core.counted_eq]
    cases c.ticked <;> cases c.save <;> rfl
  meets _ := rfl

end Sys2Proof.Machine
end

section
/-! PROOFS. The Wind Monitor (R119 to R123) with the WIND record (R128): a wind evaluation is the seconds of its tick, the
monitor, and two changes of the record. -/

namespace Sys2Proof.Machine

/-! ### Pulses (R119) -/

theorem exec_anemPulse (ch : Channel) (s : State) (h : s.part.core.phase = .run) :
    exec (.anemPulse ch) s = .next (s.withPart { s.part with core := anemPulse ch s.part.core }) := by
  show Host.Outcome.next (s.line _) = _
  simp [State.line, Core.serving_run _ h]

/-! ### Hazard records (R128) -/

theorem Core.setHazard_self (c : Core) (h : Hazard) : c.setHazard h (c.hazard h) = c := by cases h <;> rfl

theorem Core.setHazard_setHazard (c : Core) (h : Hazard) (x y : HazardRec) :
    (c.setHazard h x).setHazard h y = c.setHazard h y := by cases h <;> rfl

theorem core_putHazard (e : Ev) (h : Hazard) (x : HazardRec) : (e.putHazard h x).core = e.core.setHazard h x := by
  by_cases same : x = e.core.hazard h
  · rw [same, putHazard_same, Core.setHazard_self]
  · rw [putHazard_changed e h x same]

/-- A record replaced hands on zone evaluations and its notice. -/
theorem keepsAccounts_putHazard (e : Ev) (h : Hazard) (x : HazardRec) (w : ∀ g ∈ e.work, g.keepsAccounts = true) :
    ∀ g ∈ (e.putHazard h x).work, g.keepsAccounts = true := by
  by_cases same : x = e.core.hazard h
  · rwa [same, putHazard_same]
  · rw [putHazard_changed e h x same]
    intro g m
    rcases List.mem_append.mp m with m | m
    · exact w g m
    · rcases List.mem_append.mp m with m | m
      · obtain ⟨z, -, rfl⟩ := List.mem_map.mp m
        rfl
      · obtain rfl := List.mem_singleton.mp m
        rfl

section
variable (x : HazardRec) (l : Sev) (rises : rank x.cause < rank (some l))
include rises

/-- A cause that comes on a record without a latch or a wait for re-arm latches it. -/
theorem HazardRec.withCause_latches (h : x.latched = false) (g : x.cause ≠ none ∨ x.rearm = false) :
    x.withCause l = ⟨some l, true, some l, false, false⟩ := by
  rcases g with g | g <;> simp [HazardRec.withCause, rises, h, g, Option.isSome_iff_ne_none]

theorem HazardRec.withCause_rearm (h : x.latched = false) (g : x.cause = none) (r : x.rearm = true) :
    x.withCause l = { x with cause := some l } := by
  rw [g] at rises
  simp [HazardRec.withCause, rises, h, g, r]

/-- A cause that rises on a latched record raises its level, and clears the acknowledgement. -/
theorem HazardRec.withCause_raises (h : x.latched = true) (g : x.cause ≠ none ∨ rank x.level < rank (some l)) :
    x.withCause l = { x with cause := some l, level := some l, ackPending := false } := by
  rcases g with g | g <;> simp [HazardRec.withCause, rises, h, g, Option.isSome_iff_ne_none]

theorem HazardRec.withCause_stays (h : x.latched = true) (g : x.cause = none) (r : rank (some l) ≤ rank x.level) :
    x.withCause l = { x with cause := some l } := by
  rw [g] at rises
  simp [HazardRec.withCause, rises, h, g, Nat.not_lt.mpr r]

end

theorem rank_lt_critical {a : Option Sev} (h : a ≠ some .critical) : rank a < rank (some .critical) := by
  rcases a with _ | _ | _
  · decide
  · decide
  · exact absurd rfl h

/-! ### The wind evaluation (R119 to R123) -/

theorem WindChannel.evaluate_eq (x : WindChannel) (enable : Bool) (cal : Nat) : x.evaluate enable cal =
    if enable = false then ⟨false, 0, 0, 0, 0, 0⟩
    else if x.enabled = false then ⟨true, 0, 0, 0, 0, 0⟩
    else ⟨true, 0, x.s2, x.s3, speedOf x.count cal, (x.s2 + x.s3 + speedOf x.count cal) / 3⟩ := by
  cases enable
  · rfl
  · cases h : x.enabled <;> simp [WindChannel.evaluate, h]

/-- The WIND record after the run counts of an evaluation (R122). -/
def HazardRec.windAfter (x : HazardRec) (w : Wind) : HazardRec :=
  if w.critRun = 2 then (if x.cause = some .critical then x else x.withCause .critical)
  else if w.parkRun = 2 then (if x.cause = none then x.withCause .park else x)
  else x

section
variable (x : HazardRec) (w : Wind)

theorem HazardRec.windAfter_critical (h : w.critRun = 2) (g : x.cause = some .critical) : x.windAfter w = x := by
  rw [HazardRec.windAfter, if_pos h, if_pos g]

theorem HazardRec.windAfter_toCritical (h : w.critRun = 2) (g : x.cause ≠ some .critical) :
    x.windAfter w = x.withCause .critical := by rw [HazardRec.windAfter, if_pos h, if_neg g]

theorem HazardRec.windAfter_toPark (h : w.critRun ≠ 2) (p : w.parkRun = 2) (g : x.cause = none) :
    x.windAfter w = x.withCause .park := by rw [HazardRec.windAfter, if_neg h, if_pos p, if_pos g]

theorem HazardRec.windAfter_stays (h : w.critRun ≠ 2) (p : w.parkRun ≠ 2 ∨ x.cause ≠ none) : x.windAfter w = x := by
  rw [HazardRec.windAfter, if_neg h]
  rcases p with p | p
  · rw [if_neg p]
  · rw [if_neg p, ite_self]

end

/-- The WIND record after the hold count of an evaluation (R123). -/
def HazardRec.heldOff (x : HazardRec) (gone : Bool) : HazardRec := if gone then x.withoutCause else x

/-- The monitor after the evaluation of a core, and the core with the seconds counted and that monitor. -/
def Core.windNext (c : Core) : Wind := (c.wind.evaluate c.cfg (c.hazard .wind).cause.isSome).1
def Core.windGone (c : Core) : Bool := (c.wind.evaluate c.cfg (c.hazard .wind).cause.isSome).2
def Core.windCore (c : Core) : Core := { c.counted with wind := c.windNext, ticked := false }

theorem Core.windGone_eq (c : Core) : c.windGone = ((c.hazard .wind).cause.isSome
    && decide (c.cfg.windHold ≤ holdAfter c.wind.hold c.windNext.gust c.cfg.windRel)) := by
  unfold Core.windNext Core.windGone Wind.evaluate
  cases (c.hazard .wind).cause.isSome <;> rfl

theorem Core.parkRun_windNext (c : Core) :
    c.windNext.parkRun = runAfter c.wind.parkRun c.windNext.gust c.cfg.windPark := rfl

theorem Core.critRun_windNext (c : Core) :
    c.windNext.critRun = runAfter c.wind.critRun c.windNext.gust c.cfg.windCrit := rfl

theorem Core.hold_windNext (c : Core) : c.windNext.hold = if (c.hazard .wind).cause.isSome && !c.windGone then
    holdAfter c.wind.hold c.windNext.gust c.cfg.windRel else 0 := by
  unfold Core.windNext Core.windGone Wind.evaluate
  dsimp only
  cases (c.hazard .wind).cause.isSome
  · simp
  · simp only [↓reduceIte, Bool.true_and]
    cases decide (c.cfg.windHold ≤ _) <;> rfl

theorem windCause_eq (e : Ev) : e.windCause = e.putHazard .wind ((e.core.hazard .wind).windAfter e.core.wind) := by
  unfold Ev.windCause HazardRec.windAfter
  dsimp only
  split
  · split
    · rw [putHazard_same]
    · rfl
  · split
    · split
      · rfl
      · rw [putHazard_same]
    · rw [putHazard_same]

theorem Core.hazard_windCore (c : Core) (h : Hazard) : c.windCore.hazard h = c.hazard h := by
  cases h <;> simp only [Core.hazard, Core.windCore, Core.hazards_counted]

/-- A wind evaluation: the seconds and the monitor, and then the two changes of the WIND record. -/
theorem windEvaluation_eq (c : Core) : windEvaluation c =
    ((Ev.start c.windCore).putHazard .wind ((c.hazard .wind).heldOff c.windGone)).putHazard .wind
      (((c.hazard .wind).heldOff c.windGone).windAfter c.windNext) := by
  have gone : (if c.windGone then (Ev.start c.windCore).clearCause .wind else Ev.start c.windCore)
      = (Ev.start c.windCore).putHazard .wind ((c.hazard .wind).heldOff c.windGone) := by
    rw [← c.hazard_windCore]
    unfold HazardRec.heldOff
    split
    · rfl
    · exact (putHazard_same _ _).symm
  show Ev.windCause (if c.windGone then (Ev.start c.windCore).clearCause .wind else Ev.start c.windCore) = _
  rw [gone, windCause_eq, core_putHazard, hazard_setHazard]
  rfl

/-- The core that a wind evaluation leaves, before its hand-offs. -/
theorem core_windEvaluation (c : Core) : (windEvaluation c).core =
    c.windCore.setHazard .wind (((c.hazard .wind).heldOff c.windGone).windAfter c.windNext) := by
  rw [windEvaluation_eq, core_putHazard, core_putHazard, Core.setHazard_setHazard]
  rfl

theorem keepsAccounts_windEvaluation (c : Core) : ∀ g ∈ (windEvaluation c).work, g.keepsAccounts = true := by
  rw [windEvaluation_eq]
  exact keepsAccounts_putHazard _ _ _ (keepsAccounts_putHazard _ _ _ (fun _ m => nomatch m))

theorem Core.calm_windCore (c : Core) : c.Calm c.windCore where
  zones := c.calm_counted.zones
  hazards := c.calm_counted.hazards
  cfg := c.calm_counted.cfg
  robots := c.calm_counted.robots
  carriage := c.calm_counted.carriage
  permits := c.calm_counted.permits

/-- A wind evaluation that leaves the WIND record as it is ends calmly. -/
theorem windEvaluation_quiet (c : Core) (gone : c.windGone = false)
    (same : (c.hazard .wind).windAfter c.windNext = c.hazard .wind) : windEvaluation c = Ev.start c.windCore := by
  have put : (Ev.start c.windCore).putHazard .wind (c.hazard .wind) = Ev.start c.windCore := by
    rw [← c.hazard_windCore]
    exact putHazard_same _ _
  rw [windEvaluation_eq, gone]
  show ((Ev.start c.windCore).putHazard .wind (c.hazard .wind)).putHazard .wind ((c.hazard .wind).windAfter c.windNext) = _
  rw [same, put, put]

/-- What is kept of the core after a wind evaluation and all that follows from it. -/
theorem keptButZones_windEvaluation (p : Part) : (p.finish (windEvaluation p.core)).core.keptButZones =
    { (p.core.windCore.setHazard .wind
        (((p.core.hazard .wind).heldOff p.core.windGone).windAfter p.core.windNext)).keptButZones with
      parkOut := (p.finish (windEvaluation p.core)).core.parkOut } := by
  rw [← core_windEvaluation]
  exact keptButZones_finish _ _ (keepsAccounts_windEvaluation _)

theorem Core.census_counted (c : Core) : c.counted.census = if c.ticked then c.census else tick c.census := by
  rw [c.counted_eq]

theorem Core.review_counted (c : Core) : c.counted.review = if c.ticked then c.review else tick c.review := by
  rw [c.counted_eq]

theorem Core.save_counted (c : Core) :
    c.counted.save = if c.ticked then c.save else c.save.map (fun x => { x with timer := x.timer - 1 }) := by
  rw [c.counted_eq]

theorem Core.kept_row_counted (c : Core) (r : Nat) : (c.counted.row r).kept = { (c.row r).kept with
    age := if c.ticked then (c.row r).age else ageAfter (c.row r).age
    silence := if c.ticked then (c.row r).silence else tick (c.row r).silence } := by
  rw [Core.row_counted]
  cases c.ticked <;> rfl

theorem Core.kept_robot_counted (c : Core) (i : Nat) : (c.counted.robot i).kept = { (c.robot i).kept with
    silence := if c.ticked then (c.robot i).silence else tick (c.robot i).silence } := by
  rw [Core.robot_counted]
  cases c.ticked <;> rfl

/-- Of a row record and of a robot record the kept core shows the kept fields. -/
theorem kept_row_of_keptButZones {c d : Core} {b : Bool} (h : c.keptButZones = { d.keptButZones with parkOut := b })
    (r : Nat) : (c.row r).kept = (d.row r).kept := by
  have rows : c.rows.map RowRec.kept = d.rows.map RowRec.kept := (congrArg Core.rows h :)
  have view := fun v : Vector RowRec 96 => look_map v {} RowRec.kept r
  exact (view c.rows).symm.trans ((congrArg (look · _ r) rows).trans (view d.rows))

theorem kept_robot_of_keptButZones {c d : Core} {b : Bool} (h : c.keptButZones = { d.keptButZones with parkOut := b })
    (i : Nat) : (c.robot i).kept = (d.robot i).kept := by
  have robots : c.robots.map Robot.kept = d.robots.map Robot.kept := (congrArg Core.robots h :)
  have view := fun v : Vector Robot 8 => look_map v {} Robot.kept i
  exact (view c.robots).symm.trans ((congrArg (look · _ i) robots).trans (view d.robots))

end Sys2Proof.Machine

namespace Sys2Proof.Proofs

open Sys2Proof.Machine

/-- Settles O35: the monitor is computed before any hand-off, and what follows from the record changes nothing of the kept
core but zones. -/
theorem windMonitor : Obligations.WindMonitor := by
  intro s hrun c w pulsed channel c0 c1 gust run cause hold gone second aged save counted expires old base puts
  have c0_eq : c.windNext.c0 = c0 := WindChannel.evaluate_eq ..
  have c1_eq : c.windNext.c1 = c1 := WindChannel.evaluate_eq ..
  have gust_eq : c.windNext.gust = gust := by
    show max c.windNext.c0.gust c.windNext.c1.gust = max c0.gust c1.gust
    rw [c0_eq, c1_eq]
  have gone_eq : c.windGone = gone := by rw [c.windGone_eq, gust_eq]; rfl
  have base_eq : (c.hazard .wind).heldOff c.windGone = base := by rw [gone_eq]; rfl
  have counted_eq : counted = c.counted := c.counted_eq.symm
  have expiry : ∀ {i : Instr} {timer : Core → Option Nat} {met : Core → Bool} {P : Prop}, ExpiryOf i timer met →
      (met c = true ↔ P) → expires i (timer c) P := by
    intro i timer met P x m
    refine ⟨fun p one due => ?_, fun h => x.idle s hrun (h.imp_left fun n => Bool.eq_false_iff.mpr (mt m.mp n))⟩
    rw [counted_eq]
    exact x.counts s hrun (m.mpr p) one due
  have kept : (s.ends (windEvaluation c)).part.core.keptButZones = _ := keptButZones_windEvaluation s.part
  have record : (s.ends (windEvaluation c)).part.core.hazard .wind = base.windAfter c.windNext := by
    rw [← base_eq]
    exact (congrArg (fun d => Core.hazard d .wind) kept).trans (hazard_setHazard _ .wind _)
  have puts_of : ∀ l, rank base.cause < rank (some l) → puts l (base.withCause l) := fun l rises =>
    ⟨base.withCause_latches l rises, base.withCause_rearm l rises, base.withCause_raises l rises,
      base.withCause_stays l rises⟩
  refine ⟨exec_anemPulse .anem0 s hrun, exec_anemPulse .anem1 s hrun, s.ends (windEvaluation c), ?_⟩
  intro v
  have v_eq : v = c.windNext := (congrArg Core.wind kept :)
  rw [v_eq, record]
  refine ⟨State.event_run s windEvaluation hrun ▸ rfl, c0_eq, c1_eq, gust_eq, ?park, ?crit, ?hold, ?critSame, ?critPuts,
    ?parkPuts, ?neither, ?others, ?rows, ?robots, (congrArg Core.census kept :).trans ?census,
    (congrArg Core.review kept :).trans ?review,
    (congrArg Core.save kept :).trans ?save, (congrArg Core.ticked kept :), ?told, ?rest,
    fun r => ⟨expiry (expiry_trackerSilence r) decide_eq_true_iff, expiry (expiry_approach r) (by simp [c]),
      expiry (expiry_guardIn r) (by simp [c]), expiry (expiry_guardOut r) (by simp [c]),
      expiry (expiry_boarding r) (by simp [c]), expiry (expiry_forcedStow r) (by simp)⟩,
    fun i => expiry (expiry_robotSilence i) (by simp), expiry expiry_census (by simp),
    expiry expiry_hazardReview (by simp), expiry expiry_transferTimer (by simp [c]), expiry expiry_saveTimeout (by simp)⟩
  case park => rw [c.parkRun_windNext, gust_eq]; rfl
  case crit => rw [c.critRun_windNext, gust_eq]; rfl
  case hold => rw [c.hold_windNext, gone_eq, gust_eq]; rfl
  case critSame => exact base.windAfter_critical _
  case critPuts =>
    intro h g
    rw [base.windAfter_toCritical _ h g]
    exact puts_of _ (rank_lt_critical g)
  case parkPuts =>
    intro h p g
    rw [base.windAfter_toPark _ h p g]
    exact puts_of _ (by rw [g]; decide)
  case neither => exact base.windAfter_stays _
  case others =>
    intro h other
    exact (congrArg (fun d => Core.hazard d h) kept).trans
      ((Core.hazard_setHazard_ne _ .wind h _ other).trans (c.hazard_windCore h))
  case rows =>
    intro r
    exact (kept_row_of_keptButZones kept r).trans (c.kept_row_counted r)
  case robots =>
    intro i
    exact (kept_robot_of_keptButZones kept i).trans (c.kept_robot_counted i)
  case census | review | save =>
    simp only [Core.keptButZones, Core.kept, Core.setHazard, Core.windCore, Core.census_counted, Core.review_counted,
      Core.save_counted]
    rfl
  case told =>
    intro same stays
    have base_old : base = old := by rw [← base_eq, gone_eq, stays]; rfl
    rw [base_old] at same
    rw [windEvaluation_quiet c (gone_eq.trans stays) same, State.ends_calm s _ rfl c.calm_windCore, counted_eq]
    rfl
  case rest =>
    rw [kept]
    show Core.keptButZones { c.windCore with
      wind := w, hazards := c.hazards, rows := c.rows, robots := c.robots, census := c.census, review := c.review
      save := c.save, ticked := c.ticked, parkOut := c.parkOut } = _
    rw [Core.windCore, c.counted_eq]
    rfl

end Sys2Proof.Proofs
end

section
/-! SUPPORT. A reply that stands on a link is no part of what an event does: an event of the part leaves it there, and does the
same with it and without it. -/

namespace Sys2Proof.Machine

/-- The part with a reply built on a link. -/
def Part.replied (p : Part) (l : Link) (r : ReplyFrame) : Part := p.modPort l (fun x => { x with reply := some r })

@[simp] theorem Part.core_replied (p : Part) (l : Link) (r : ReplyFrame) : (p.replied l r).core = p.core := rfl

theorem State.answered_eq (s : State) (l : Link) (t : ReqType) (r : Reply) :
    s.answered l t r = s.withPart (s.part.replied l ⟨replyType (codeOf t), none, r⟩) := rfl

theorem Part.replied_replied (p : Part) (l : Link) (r q : ReplyFrame) :
    (p.replied l r).replied l q = p.replied l q := by cases l <;> rfl

theorem Part.replied_comm (p : Part) (r q : ReplyFrame) :
    (p.replied .T r).replied .P q = (p.replied .P q).replied .T r := rfl

theorem State.replyOn_answered (s : State) (l : Link) (t : ReqType) (r : Reply) :
    (s.answered l t r).replyOn l = some r := by cases l <;> rfl

theorem Liu.modPort_comm (u : Liu) (l k : Link) (f g : Port → Port) (h : ∀ x, g (f x) = f (g x)) :
    (u.modPort l f).modPort k g = (u.modPort k g).modPort l f := by
  cases l <;> cases k <;> simp only [Liu.modPort, h]

theorem enqueue_replied (x : Port) (r : Option ReplyFrame) (k : NoticeClass) (n : Notice) :
    ({ x with reply := r } : Port).enqueue k n = { x.enqueue k n with reply := r } := by
  unfold Port.enqueue
  dsimp only
  repeat' split
  all_goals rfl

theorem flush_replied (u : Liu) (c : Core) (out : List Announcement) (l : Link) (r : ReplyFrame) :
    (u.modPort l (fun x => { x with reply := some r })).flush c out
      = (u.flush c out).modPort l (fun x => { x with reply := some r }) := by
  have handTo : ∀ (u : Liu) (n : Notice) (k : Link), (u.modPort l (fun x => { x with reply := some r })).handTo c.cfg n k
      = (u.handTo c.cfg n k).modPort l (fun x => { x with reply := some r }) := by
    intro u n k
    unfold Liu.handTo
    split
    · exact u.modPort_comm l k _ _ (fun x => enqueue_replied x (some r) _ n)
    · rfl
  have deliver : ∀ (u : Liu) (n : Notice), (u.modPort l (fun x => { x with reply := some r })).deliver c.cfg n
      = (u.deliver c.cfg n).modPort l (fun x => { x with reply := some r }) := by
    intro u n
    simp only [Liu.deliver, handTo]
  unfold Liu.flush
  induction out generalizing u with
  | nil => rfl
  | cons a out ih => rw [List.foldl_cons, List.foldl_cons, deliver, ih]

theorem drivePins_replied (p : Part) (l : Link) (r : ReplyFrame) : (p.replied l r).drivePins = p.drivePins.replied l r := by
  cases l <;> rfl

/-- An event leaves a reply where it stands. -/
theorem finish_replied (p : Part) (l : Link) (r : ReplyFrame) (e : Ev) :
    (p.replied l r).finish e = (p.finish e).replied l r := by
  have pins := drivePins_replied
    ⟨p.liu.flush (e.deliver.endTests p.core).core (e.deliver.endTests p.core).out, (e.deliver.endTests p.core).core⟩ l r
  rw [Part.replied, Part.modPort, ← flush_replied] at pins
  exact pins

end Sys2Proof.Machine
end

section
/-! PROOFS. The batch of a TRACKER REPORT (R7, R8, R10, R46): its counts, its cut into two batches, the writes between its
entries. -/

namespace Sys2Proof.Machine

/-! ### Counts -/

/-- The counts of two batches together. -/
def BatchCounts.plus (n m : BatchCounts) : BatchCounts :=
  ⟨n.applied + m.applied, n.badRow + m.badRow, n.notMapped + m.notMapped, n.denied + m.denied, n.clamped + m.clamped⟩

theorem BatchCounts.add_plus (n m : BatchCounts) (x : TrackerEntry) (a : Option Result) :
    (n.add x a).plus m = n.plus ((({} : BatchCounts).add x a).plus m) := by
  unfold BatchCounts.add
  split <;> simp [BatchCounts.plus, Nat.add_assoc]

/-- The decode of an entry has four answers (R46). -/
theorem Core.entryAnswer_cases (c : Core) (r : Nat) : c.entryAnswer r = none ∨ c.entryAnswer r = some .badRow
    ∨ c.entryAnswer r = some .notMapped ∨ c.entryAnswer r = some .denied := by
  unfold Core.entryAnswer Settings.windowAnswer
  split
  · simp
  · split
    · simp
    · split <;> simp

theorem Core.entryAnswer_badRow (c : Core) (r : Nat) : c.entryAnswer r = some .badRow ↔ c.cfg.rows ≤ r := by
  unfold Core.entryAnswer Settings.windowAnswer Core.present
  split
  case isTrue h => simpa using h
  case isFalse h =>
    have present : ¬c.cfg.rows ≤ r := by simpa using h
    split
    · simp [present]
    · split <;> simp [present]

theorem BatchCounts.plus_empty (n : BatchCounts) : n.plus {} = n := rfl

/-- Every entry is counted once, and a clamped one is applied (R7, R10). -/
theorem BatchCounts.add_total (n : BatchCounts) (x : TrackerEntry) (c : Core) (r : Nat) :
    (n.add x (c.entryAnswer r)).applied + (n.add x (c.entryAnswer r)).badRow + (n.add x (c.entryAnswer r)).notMapped
        + (n.add x (c.entryAnswer r)).denied = n.applied + n.badRow + n.notMapped + n.denied + 1
    ∧ (n.clamped ≤ n.applied → (n.add x (c.entryAnswer r)).clamped ≤ (n.add x (c.entryAnswer r)).applied) := by
  have flag : (angleClamped x.angle).toNat ≤ 1 := Bool.toNat_le _
  rcases c.entryAnswer_cases r with h | h | h | h <;> rw [h] <;> simp only [BatchCounts.add] <;> omega

theorem BatchCounts.reply_eq (n : BatchCounts) : n.reply = ⟨if n.clamped = 0 then .done else .clamped,
    .tracker n.applied n.badRow n.notMapped n.denied n.clamped⟩ := by
  have flag : decide (0 < n.clamped) = !decide (n.clamped = 0) := by
    rw [← decide_not]
    exact decide_eq_decide.mpr Nat.pos_iff_ne_zero
  rw [BatchCounts.reply, flag]
  by_cases h : n.clamped = 0 <;> simp [doneOr, h]

/-! ### A batch -/

/-- The part when an entry is decoded: the writes before it have been taken (R46). -/
def Part.beforeEntry (p : Part) (x : TrackerEntry) : Part := x.before.foldl Part.writeBetween p

/-- The answer of an entry's decode. -/
def Part.answerTo (p : Part) (x : TrackerEntry) : Option Result := (p.beforeEntry x).core.entryAnswer x.row

/-- The part after an entry. -/
def Part.afterEntry (p : Part) (x : TrackerEntry) : Part :=
  if (p.answerTo x).isNone then (p.beforeEntry x).finish (trackerEvent x (p.beforeEntry x).core) else p.beforeEntry x

theorem batchEntry_eq (n : BatchCounts) (p : Part) (x : TrackerEntry) :
    Part.batchEntry (n, p) x = (n.add x (p.answerTo x), p.afterEntry x) := rfl

/-- A batch taken on a part: its counts and the part after it. -/
def Part.batch (p : Part) (xs : List TrackerEntry) : BatchCounts × Part := xs.foldl Part.batchEntry ({}, p)

theorem Part.trackerReport_eq (p : Part) (xs : List TrackerEntry) :
    p.trackerReport xs = ((p.batch xs).1.reply, (p.batch xs).2) := rfl

/-- The counts so far add to those of what follows, which do not depend on them. -/
theorem foldl_batchEntry (xs : List TrackerEntry) (n : BatchCounts) (p : Part) :
    xs.foldl Part.batchEntry (n, p) = (n.plus (p.batch xs).1, (p.batch xs).2) := by
  induction xs generalizing n p with
  | nil => rfl
  | cons x xs ih =>
    rw [Part.batch, List.foldl_cons, List.foldl_cons, batchEntry_eq, batchEntry_eq, ih, ih,
      BatchCounts.add_plus]

theorem Part.batch_cons (p : Part) (x : TrackerEntry) (xs : List TrackerEntry) : p.batch (x :: xs) =
    ((({} : BatchCounts).add x (p.answerTo x)).plus ((p.afterEntry x).batch xs).1, ((p.afterEntry x).batch xs).2) :=
  foldl_batchEntry xs _ _

/-- A batch cut in two is its two parts taken one after the other. -/
theorem Part.batch_append (p : Part) (xs ys : List TrackerEntry) : p.batch (xs ++ ys) =
    ((p.batch xs).1.plus ((p.batch xs).2.batch ys).1, ((p.batch xs).2.batch ys).2) := by
  rw [Part.batch, List.foldl_append]
  exact foldl_batchEntry ys _ _

/-- A write before the first entry is taken before the batch. -/
theorem Part.batch_write (p : Part) (x : TrackerEntry) (item : Item) (rest : List Item) (ys : List TrackerEntry) :
    p.batch ({ x with before := item :: rest } :: ys) = (p.writeBetween item).batch ({ x with before := rest } :: ys) :=
  rfl

/-- Every entry of a batch is counted once, and the clamped ones are applied (R7, R10). -/
theorem Part.batch_total (p : Part) (xs : List TrackerEntry) :
    (p.batch xs).1.applied + (p.batch xs).1.badRow + (p.batch xs).1.notMapped + (p.batch xs).1.denied = xs.length
    ∧ (p.batch xs).1.clamped ≤ (p.batch xs).1.applied := by
  induction xs generalizing p with
  | nil => exact ⟨rfl, Nat.le_refl _⟩
  | cons x xs ih =>
    obtain ⟨total, clamped⟩ := ih (p.afterEntry x)
    obtain ⟨one, flag⟩ := ({} : BatchCounts).add_total x (p.beforeEntry x).core x.row
    have flag := flag (Nat.le_refl _)
    rw [Part.batch_cons]
    simp only [BatchCounts.plus, List.length_cons, Part.answerTo]
    simp only [Nat.zero_add, Nat.add_zero] at one
    omega

/-! ### A reply that stands on the T-link -/

theorem writeBetween_replied (p : Part) (r : ReplyFrame) (item : Item) :
    (p.replied .T r).writeBetween item = (p.writeBetween item).replied .T r := by
  unfold Part.writeBetween
  rw [Part.core_replied]
  cases p.core.refusal .P .configWrite (some (.configWrite item)) with
  | some x => exact p.replied_comm _ _
  | none =>
    simp only [Part.act, finish_replied]
    exact Part.replied_comm _ _ _

theorem beforeEntry_replied (p : Part) (r : ReplyFrame) (x : TrackerEntry) :
    (p.replied .T r).beforeEntry x = (p.beforeEntry x).replied .T r := by
  unfold Part.beforeEntry
  generalize x.before = items
  induction items generalizing p with
  | nil => rfl
  | cons item items ih => rw [List.foldl_cons, List.foldl_cons, writeBetween_replied, ih]

theorem batch_replied (p : Part) (r : ReplyFrame) (xs : List TrackerEntry) :
    (p.replied .T r).batch xs = ((p.batch xs).1, (p.batch xs).2.replied .T r) := by
  induction xs generalizing p with
  | nil => rfl
  | cons x xs ih =>
    have answer : (p.replied .T r).answerTo x = p.answerTo x := by
      rw [Part.answerTo, beforeEntry_replied]
      rfl
    have after : (p.replied .T r).afterEntry x = (p.afterEntry x).replied .T r := by
      unfold Part.afterEntry
      rw [answer, beforeEntry_replied, finish_replied]
      split <;> rfl
    rw [Part.batch_cons, Part.batch_cons, answer, after, ih]

end Sys2Proof.Machine
end

section
/-! PROOFS. What a batch leaves alone: the part state, with writes of link enables alone the decodes of its entries, with no
writes the kept core but for the reported fields. -/

namespace Sys2Proof.Machine

/-! ### Writes between entries -/

theorem keepsAccounts_hand (e : Ev) (g : Handoff) (w : ∀ h ∈ e.work, h.keepsAccounts = true) (k : g.keepsAccounts = true) :
    ∀ h ∈ (e.hand g).work, h.keepsAccounts = true := by
  intro h m
  rcases List.mem_append.mp m with m | m
  · exact w h m
  · rwa [List.mem_singleton.mp m]

theorem keepsAccounts_mapChange (old new : Set8) : ∀ h ∈ mapChange old new, h.keepsAccounts = true := by
  intro h m
  obtain ⟨z, -, rfl⟩ := List.mem_map.mp m
  rfl

/-- What a taken write sets going at once hands on zone evaluations and notices, and leaves part state and configuration. -/
theorem itemTaken_spec (e : Ev) (item : Item) (before : Settings) (w : e.work = []) :
    (∀ h ∈ (e.itemTaken item before).work, h.keepsAccounts = true)
    ∧ (e.itemTaken item before).core.phase = e.core.phase ∧ (e.itemTaken item before).core.cfg = e.core.cfg := by
  have nothing : ∀ h ∈ e.work, h.keepsAccounts = true := by rw [w]; exact fun _ m => nomatch m
  cases item with
  | map h v =>
    unfold Ev.itemTaken
    dsimp only
    split
    · have changes : ∀ g ∈ (e.handAll (mapChange (before.map h) (e.core.cfg.map h))).work, g.keepsAccounts = true := by
        rw [Ev.work_handAll, w]
        exact keepsAccounts_mapChange _ _
      exact ⟨keepsAccounts_hand _ _ changes rfl, rfl, rfl⟩
    · exact ⟨keepsAccounts_hand _ _ nothing rfl, rfl, rfl⟩
  | mode h v => exact ⟨keepsAccounts_hand _ _ nothing rfl, rfl, rfl⟩
  | lineLevel v =>
    have cause : ∀ l, (∀ h ∈ (e.setCause .line l).work, h.keepsAccounts = true)
        ∧ (e.setCause .line l).core.phase = e.core.phase ∧ (e.setCause .line l).core.cfg = e.core.cfg := by
      intro l
      rw [Ev.setCause, core_putHazard]
      exact ⟨keepsAccounts_putHazard _ _ _ nothing, rfl, rfl⟩
    unfold Ev.itemTaken Ev.lineLevelTaken
    dsimp only
    split
    · split
      · exact cause _
      · exact ⟨nothing, rfl, rfl⟩
    · exact ⟨nothing, rfl, rfl⟩
  | _ => exact ⟨nothing, rfl, rfl⟩

/-- A CONFIG WRITE is refused, or sets its item and what that sets going (R186). -/
theorem reqConfigWrite_cases (item : Item) (c : Core) : (reqConfigWrite item c).2 = Ev.start c
    ∨ (reqConfigWrite item c).2 = (Ev.start { c with
        shadow := c.shadow.set (Item.clamp item), cfg := c.cfgAfter (Item.clamp item) }).itemTaken (Item.clamp item) c.cfg := by
  unfold reqConfigWrite
  dsimp only
  split
  · exact .inl rfl
  · split
    · exact .inl rfl
    · exact .inr rfl

theorem reqConfigWrite_spec (item : Item) (c : Core) :
    (∀ h ∈ (reqConfigWrite item c).2.work, h.keepsAccounts = true)
    ∧ (reqConfigWrite item c).2.core.phase = c.phase
    ∧ ((reqConfigWrite item c).2.core.cfg = c.cfg
      ∨ (reqConfigWrite item c).2.core.cfg = c.cfgAfter (Item.clamp item)) := by
  rcases reqConfigWrite_cases item c with refused | taken
  · rw [refused]
    exact ⟨(fun _ m => nomatch m), rfl, .inl rfl⟩
  · rw [taken]
    obtain ⟨keeps, phase, cfg⟩ := itemTaken_spec (Ev.start { c with
      shadow := c.shadow.set (Item.clamp item), cfg := c.cfgAfter (Item.clamp item) }) (Item.clamp item) c.cfg rfl
    exact ⟨keeps, phase, .inr cfg⟩

/-- A write between entries leaves the part state, and of the configuration in force it sets at most its item. -/
theorem writeBetween_spec (p : Part) (item : Item) : (p.writeBetween item).core.phase = p.core.phase
    ∧ ((p.writeBetween item).core.cfg = p.core.cfg ∨ (p.writeBetween item).core.cfg = p.core.cfgAfter (Item.clamp item)) := by
  unfold Part.writeBetween
  cases p.core.refusal .P .configWrite (some (.configWrite item)) with
  | some x => exact ⟨rfl, .inl rfl⟩
  | none =>
    obtain ⟨keeps, phase, cfg⟩ := reqConfigWrite_spec item p.core
    simp only [Part.act, Part.core_modPort, phase_finish _ _ keeps, cfg_finish _ _ keeps]
    exact ⟨phase, cfg⟩

/-- The decode of an entry looks at the rows and the windows in force. -/
theorem Core.entryAnswer_congr {c d : Core} (rows : c.cfg.rows = d.cfg.rows) (windows : c.cfg.windows = d.cfg.windows) :
    c.entryAnswer = d.entryAnswer := by
  funext r
  unfold Core.entryAnswer Core.present Settings.windowAnswer Settings.deciding Settings.window
  rw [rows, windows]

/-- A write of the link enables changes no decode of an entry. -/
theorem entryAnswer_writeBetween (p : Part) (onT onF : Bool) :
    (p.writeBetween (.linkEnable onT onF)).core.entryAnswer = p.core.entryAnswer := by
  obtain ⟨-, cfg | cfg⟩ := writeBetween_spec p (.linkEnable onT onF)
  · exact Core.entryAnswer_congr (by rw [cfg]) (by rw [cfg])
  · have after : p.core.cfgAfter (.linkEnable onT onF) = { p.core.cfg with linkT := onT, linkF := onF } := if_pos (.inr rfl)
    rw [Item.clamp, after] at cfg
    exact Core.entryAnswer_congr (by rw [cfg]) (by rw [cfg])

/-! ### An entry applied -/

theorem view_permitRules (e : Ev) (r : Nat) : (e.permitRules r).view = e.view := by
  unfold Ev.permitRules
  dsimp only
  repeat' split
  all_goals simp (disch := (intros; rfl))

/-- Of the kept core an applied entry writes the reported fields, and it hands on plain hand-offs. -/
theorem trackerEvent_kept (x : TrackerEntry) (c : Core) :
    (trackerEvent x c).core.kept = (c.reported x).kept ∧ (trackerEvent x c).work.all Handoff.plain = true := by
  obtain ⟨e, core, work, event⟩ := trackerEvent_eq x c
  have view : (trackerEvent x c).view = e.view := by
    rw [event]
    exact (view_modRow _ x.row RowRec.compareMode (fun _ => rfl)).trans (view_permitRules e x.row)
  simp only [Ev.view, work, core, Prod.mk.injEq, List.all_nil] at view
  exact view

theorem kept_finish_trackerEvent (p : Part) (x : TrackerEntry) : (p.finish (trackerEvent x p.core)).core.kept =
    { (p.core.reported x).kept with parkOut := (p.finish (trackerEvent x p.core)).core.parkOut } := by
  obtain ⟨kept, plain⟩ := trackerEvent_kept x p.core
  rw [← kept]
  exact kept_finish p _ plain

/-- A view of every entry of a table and an update that commutes with it. -/
theorem map_upd_comm {α : Type} {n : Nat} (v : Vector α n) (i : Nat) (f g : α → α) (h : ∀ x, g (f x) = f (g x)) :
    (upd v i f).map g = upd (v.map g) i f := by
  unfold upd
  split
  · apply Vector.ext
    intro j hj
    by_cases e : i = j
    · subst e
      simp [h]
    · simp [Vector.getElem_set_ne, e]
  · rfl

/-- Writing the reported fields and looking at the kept core commute. -/
theorem kept_reported (c : Core) (x : TrackerEntry) : (c.reported x).kept = c.kept.reported x := by
  simp (disch := exact fun _ => rfl) only [Core.reported, Core.kept, Core.modRow, map_upd_comm]

theorem phase_afterEntry (p : Part) (x : TrackerEntry) : (p.afterEntry x).core.phase = p.core.phase := by
  have before : (p.beforeEntry x).core.phase = p.core.phase := by
    unfold Part.beforeEntry
    generalize x.before = items
    induction items generalizing p with
    | nil => rfl
    | cons item items ih => rw [List.foldl_cons, ih, (writeBetween_spec p item).1]
  unfold Part.afterEntry
  split
  · exact (congrArg Core.phase (kept_finish_trackerEvent (p.beforeEntry x) x) :).trans before
  · exact before

/-- A batch leaves the part state. -/
theorem phase_batch (p : Part) (xs : List TrackerEntry) : (p.batch xs).2.core.phase = p.core.phase := by
  induction xs generalizing p with
  | nil => rfl
  | cons x xs ih => rw [Part.batch_cons, ih, phase_afterEntry]

end Sys2Proof.Machine
end

section
/-! PROOFS. The batch of a TRACKER REPORT as a whole (R7, R8, R10, R46): its counts by the decodes that stand when it is taken,
and the statement of the batch. -/

namespace Sys2Proof.Machine

/-! ### A batch whose decodes stand -/

/-- The entry has writes of the link enables alone before it. -/
def EnablesOnly (x : TrackerEntry) : Prop := ∀ i ∈ x.before, ∃ onT onF, i = Item.linkEnable onT onF

theorem entryAnswer_beforeEntry (p : Part) (x : TrackerEntry) (h : EnablesOnly x) :
    (p.beforeEntry x).core.entryAnswer = p.core.entryAnswer := by
  unfold EnablesOnly at h
  unfold Part.beforeEntry
  generalize x.before = items at h
  induction items generalizing p with
  | nil => rfl
  | cons item items ih =>
    obtain ⟨onT, onF, rfl⟩ := h item List.mem_cons_self
    rw [List.foldl_cons, ih _ (fun i m => h i (List.mem_cons_of_mem _ m)), entryAnswer_writeBetween]

theorem answerTo_eq (p : Part) (x : TrackerEntry) (h : EnablesOnly x) : p.answerTo x = p.core.entryAnswer x.row :=
  congrFun (entryAnswer_beforeEntry p x h) x.row

/-- An entry applied changes no decode. -/
theorem entryAnswer_afterEntry (p : Part) (x : TrackerEntry) (h : EnablesOnly x) :
    (p.afterEntry x).core.entryAnswer = p.core.entryAnswer := by
  unfold Part.afterEntry
  split
  · have cfg := (congrArg Core.cfg (kept_finish_trackerEvent (p.beforeEntry x) x) :)
    exact (Core.entryAnswer_congr (congrArg Settings.rows cfg) (congrArg Settings.windows cfg)).trans
      (entryAnswer_beforeEntry p x h)
  · exact entryAnswer_beforeEntry p x h

/-- The counts of a batch whose entries have the answers `ans`, by row. -/
def BatchCounts.ofAnswers (ans : Nat → Option Result) (xs : List TrackerEntry) : BatchCounts where
  applied := (xs.filter (fun x => ans x.row == none)).length
  badRow := (xs.filter (fun x => ans x.row == some .badRow)).length
  notMapped := (xs.filter (fun x => ans x.row == some .notMapped)).length
  denied := (xs.filter (fun x => ans x.row == some .denied)).length
  clamped := ((xs.filter (fun x => ans x.row == none)).filter (fun x => angleClamped x.angle)).length

theorem BatchCounts.ofAnswers_cons (c : Core) (x : TrackerEntry) (xs : List TrackerEntry) :
    BatchCounts.ofAnswers c.entryAnswer (x :: xs)
      = (({} : BatchCounts).add x (c.entryAnswer x.row)).plus (BatchCounts.ofAnswers c.entryAnswer xs) := by
  have one : ∀ (n : Nat), n + 1 = 1 + n := fun n => Nat.add_comm n 1
  rcases c.entryAnswer_cases x.row with h | h | h | h
  · cases flag : angleClamped x.angle <;>
      simp [BatchCounts.ofAnswers, BatchCounts.add, BatchCounts.plus, h, flag, one]
  all_goals simp [BatchCounts.ofAnswers, BatchCounts.add, BatchCounts.plus, h, one]

/-- With writes of the link enables alone between the entries each is decoded as when the batch is taken. -/
theorem counts_batch (p : Part) (xs : List TrackerEntry) (h : ∀ x ∈ xs, EnablesOnly x) :
    (p.batch xs).1 = BatchCounts.ofAnswers p.core.entryAnswer xs := by
  induction xs generalizing p with
  | nil => rfl
  | cons x xs ih =>
    have first := h x List.mem_cons_self
    rw [Part.batch_cons, ih _ (fun y m => h y (List.mem_cons_of_mem _ m)), entryAnswer_afterEntry p x first,
      answerTo_eq p x first, BatchCounts.ofAnswers_cons]

/-- With nothing written between the entries a batch writes of the kept core the reported fields of the entries that pass. -/
theorem kept_batch (p : Part) (xs : List TrackerEntry) (d : Core) (h : ∀ x ∈ xs, x.before = [])
    (k : p.core.kept = { d.kept with parkOut := p.core.parkOut }) :
    (p.batch xs).2.core.kept = { ((xs.filter (fun x => p.core.entryAnswer x.row == none)).foldl Core.reported d).kept with
      parkOut := (p.batch xs).2.core.parkOut } := by
  induction xs generalizing p d with
  | nil => exact k
  | cons x xs ih =>
    have none_before := h x List.mem_cons_self
    have first : EnablesOnly x := by
      rw [EnablesOnly, none_before]
      exact fun _ m => nomatch m
    have same : p.beforeEntry x = p := by rw [Part.beforeEntry, none_before]; rfl
    have rest := ih (p.afterEntry x)
    rw [entryAnswer_afterEntry p x first] at rest
    rw [Part.batch_cons, List.filter_cons]
    have rest := fun d => rest d (fun y m => h y (List.mem_cons_of_mem _ m))
    cases answer : p.core.entryAnswer x.row with
    | none =>
      refine rest (d.reported x) ?_
      have after : p.afterEntry x = p.finish (trackerEvent x p.core) := by
        rw [Part.afterEntry, answerTo_eq p x first, answer, same]
        rfl
      rw [after, kept_finish_trackerEvent, kept_reported, kept_reported, k]
      rfl
    | some a =>
      refine rest d ?_
      have after : p.afterEntry x = p := by
        rw [Part.afterEntry, answerTo_eq p x first, answer, same]
        rfl
      rw [after]
      exact k

theorem angleClamped_iff (a : Int) : angleClamped a = decide (a ≠ -32768 ∧ (a < -900 ∨ 900 < a)) := by
  unfold angleClamped reportedAngle clampInt
  by_cases absent : a = -32768
  · simp [absent]
  · by_cases low : a < -900
    · simp [absent, low, (Int.ne_of_lt low).symm]
    · by_cases high : 900 < a
      · simp [absent, low, high, Int.ne_of_lt high]
      · simp [absent, low, high]

/-! ### The command -/

/-- The state after a batch taken on the T-link. -/
def State.batched (s : State) (xs : List TrackerEntry) : State :=
  (s.withPart (s.part.batch xs).2).answered .T .trackerReport (s.part.batch xs).1.reply

theorem exec_trackerReport (s : State) (xs : List TrackerEntry) (hrun : s.part.core.phase = .run)
    (hT : s.part.core.cfg.linkT = true) (one : 1 ≤ xs.length) (sixty : xs.length ≤ 60)
    (hrep : ∀ x ∈ xs, reportable x.state = true) : exec (.trackerReport .T xs.length xs) s = .next (s.batched xs) := by
  have form : Request.malformed (.trackerReport xs.length xs) = false := by
    have states : xs.any (fun x => !reportable x.state) = false := by simpa using hrep
    have count : (xs.length == 0) = false := by simpa using Nat.ne_of_gt one
    simp [Request.malformed, states, count, sixty]
  rw [exec_request _ .T (.trackerReport xs.length xs) rfl, s.request_run .T _ hrun rfl form (fun _ => hT)]
  rfl

theorem replyOn_batched (s : State) (xs : List TrackerEntry) :
    (s.batched xs).replyOn .T = some ⟨if (s.part.batch xs).1.clamped = 0 then .done else .clamped,
      .tracker (s.part.batch xs).1.applied (s.part.batch xs).1.badRow (s.part.batch xs).1.notMapped
        (s.part.batch xs).1.denied (s.part.batch xs).1.clamped⟩ := by
  rw [State.batched, State.replyOn_answered, BatchCounts.reply_eq]

theorem phase_batched (s : State) (xs : List TrackerEntry) : (s.batched xs).part.core.phase = s.part.core.phase :=
  phase_batch s.part xs

/-- Two batches one after the other leave the part as one batch of both, but for the reply. -/
theorem batched_append (s : State) (xs ys : List TrackerEntry) : s.batched (xs ++ ys) =
    ((s.batched xs).batched ys).answered .T .trackerReport
      ((s.part.batch xs).1.plus ((s.batched xs).part.batch ys).1).reply := by
  have second : (s.batched xs).part.batch ys = _ := batch_replied _ _ ys
  rw [State.batched, s.part.batch_append, State.batched, second]
  simp only [State.answered_eq, State.withPart, Part.replied_replied]
  rfl

/-- A write before the first entry acts as the CONFIG WRITE before the batch (R46). -/
theorem batched_write (s : State) (x : TrackerEntry) (item : Item) (rest : List Item) (ys : List TrackerEntry) :
    s.batched ({ x with before := item :: rest } :: ys)
      = (s.withPart (s.part.writeBetween item)).batched ({ x with before := rest } :: ys) := rfl

theorem exec_configWrite (s : State) (item : Item) (hrun : s.part.core.phase = .run) :
    exec (.configWrite .P item) s = .next (s.withPart (s.part.writeBetween item)) := by
  rw [exec_request _ .P (.configWrite item) rfl, State.request, Core.serving_run _ hrun, Part.writeBetween_eq]
  rfl

end Sys2Proof.Machine

namespace Sys2Proof.Proofs

open Sys2Proof.Machine

/-- Settles O3: the batch is a fold over its entries whose counts add up and which a standing reply does not change. -/
theorem trackerReportAppliesPassedEntries : Obligations.TrackerReportAppliesPassedEntries := by
  intro s count entries hrun hT one sixty len hrep result batch answer passed
  subst len
  have answer_eq : ∀ x, answer x = s.part.core.entryAnswer x.row := fun x => (Core.entryAnswer_eq _ _ hT).symm
  obtain ⟨total, clamped⟩ := s.part.batch_total entries
  have passed_eq : passed = entries.filter (fun x => s.part.core.entryAnswer x.row == none) := by
    simp only [passed, answer_eq]
  refine ⟨s.batched entries, _, _, _, _, _, exec_trackerReport s entries hrun hT one sixty hrep,
    replyOn_batched s entries, total, clamped, ?counts, ?kept, ?cut, ?write⟩
  case counts =>
    intro h
    have badRow : ∀ x : TrackerEntry, decide (s.part.core.cfg.rows ≤ x.row)
        = (s.part.core.entryAnswer x.row == some .badRow) := fun x =>
      Bool.eq_iff_iff.mpr (decide_eq_true_iff.trans ((Core.entryAnswer_badRow _ _).symm.trans beq_iff_eq.symm))
    rw [counts_batch s.part entries h, passed_eq]
    simp only [answer_eq, badRow, ← angleClamped_iff]
    exact ⟨rfl, rfl, rfl, rfl, rfl⟩
  case kept =>
    intro h
    rw [passed_eq]
    exact kept_batch s.part entries s.part.core h rfl
  case cut =>
    intro xs ys cut hxs hys
    subst cut
    rw [List.length_append] at sixty
    have first := exec_trackerReport s xs hrun hT (List.length_pos_iff.mpr hxs) (by omega)
      (fun x m => hrep x (List.mem_append_left _ m))
    refine ⟨s.batched xs, _, _, _, _, _, first, replyOn_batched s xs, fun hT₁ => ?_⟩
    have second := exec_trackerReport (s.batched xs) ys ((phase_batched s xs).trans hrun) hT₁
      (List.length_pos_iff.mpr hys) (by omega) (fun x m => hrep x (List.mem_append_right _ m))
    refine ⟨(s.batched xs).batched ys, _, _, _, _, _, second, replyOn_batched _ ys, ?_⟩
    rw [batched_append, BatchCounts.reply_eq]
    rfl
  case write =>
    intro x item rest ys shape
    subst shape
    refine ⟨_, exec_configWrite s item hrun, fun hT₁ => ?_⟩
    rw [batched_write]
    have rest_reportable : ∀ y ∈ { x with before := rest } :: ys, reportable y.state = true := by
      intro y m
      rcases List.mem_cons.mp m with rfl | m
      · exact hrep { x with before := item :: rest } List.mem_cons_self
      · exact hrep y (List.mem_cons_of_mem _ m)
    exact exec_trackerReport _ _ ((writeBetween_spec s.part item).1.trans hrun) hT₁ one sixty rest_reportable

end Sys2Proof.Proofs
end

section
/-! PROOFS. The Access Decoder (R41 to R53): what a window matches, which window decides, and what the decode and WINDOW TEST
make of it. -/

namespace Sys2Proof.Machine

/-- What a window matches, field by field (R41). -/
theorem Window.matches_iff (w : Window) (l : Link) (r : Nat) : Window.matches w l r = true ↔
    w.enabled = true ∧ w.base ≤ r ∧ r ≤ w.limit ∧ LinkSet.has w.links l = true := by
  simp only [Window.matches, Bool.and_eq_true, decide_eq_true_eq, and_assoc]

/-- The deciding window is the matching one with the lowest number (R44 step 3, R45). -/
theorem Settings.deciding_eq_some (s : Settings) (l : Link) (r n : Nat) : s.deciding l r = some n ↔
    n < 12 ∧ Window.matches (s.window n) l r = true ∧ ∀ m, m < n → Window.matches (s.window m) l r = false := by
  simp only [Settings.deciding, windowNumbers, List.find?_range_eq_some, List.mem_range, Bool.not_eq_true']
  exact and_left_comm

/-- The rights that decide for row `r` on link `l`: those of the deciding window, none without one (R44, R52). -/
def Settings.rightsFor (s : Settings) (l : Link) (r : Nat) : RightSet :=
  match s.deciding l r with
  | none => ⟨false, false, false, false⟩
  | some n => (s.window n).rights

theorem Settings.rightsFor_some {s : Settings} {l : Link} {r n : Nat} (h : s.deciding l r = some n) :
    s.rightsFor l r = (s.window n).rights := by rw [Settings.rightsFor, h]

theorem Settings.rightsFor_none {s : Settings} {l : Link} {r : Nat} (h : s.deciding l r = none) :
    s.rightsFor l r = ⟨false, false, false, false⟩ := by rw [Settings.rightsFor, h]

theorem Settings.windowAnswer_none {s : Settings} {l : Link} {r : Nat} (h : s.deciding l r = none) (x : Right) :
    s.windowAnswer l x r = some .notMapped := by rw [Settings.windowAnswer, h]

/-- Where a window decides, the answer goes by its rights alone (R44 step 4). -/
theorem Settings.windowAnswer_isSome {s : Settings} {l : Link} {r : Nat} (h : (s.deciding l r).isSome = true) (x : Right) :
    s.windowAnswer l x r = if RightSet.has (s.rightsFor l r) x then none else some .denied := by
  obtain ⟨n, hn⟩ := Option.isSome_iff_exists.mp h
  rw [Settings.windowAnswer, Settings.rightsFor_some hn, hn]

theorem Core.decode_absent {c : Core} {r : Nat} (h : c.cfg.rows ≤ r) (l : Link) (x : Right) :
    c.decode l x r = some .badRow := by
  have absent : c.present r = false := decide_eq_false (Nat.not_lt.mpr h)
  simp [Core.decode, absent]

theorem Core.decode_disabled {c : Core} {l : Link} {r : Nat} (h : r < c.cfg.rows) (off : c.cfg.enabled l = false) (x : Right) :
    c.decode l x r = some .portDisabled := by
  have present : c.present r = true := decide_eq_true h
  simp [Core.decode, present, off]

/-- On a present row of an enabled link the windows give the answer (R44 steps 3 and 4). -/
theorem Core.decode_enabled {c : Core} {l : Link} {r : Nat} (h : r < c.cfg.rows) (on : c.cfg.enabled l = true) (x : Right) :
    c.decode l x r = c.cfg.windowAnswer l x r := by
  have present : c.present r = true := decide_eq_true h
  simp [Core.decode, present, on]

theorem reqWindowTest_absent {c : Core} {r : Nat} (h : c.cfg.rows ≤ r) (l : Link) : reqWindowTest l r c = refuse .badRow := by
  have absent : c.present r = false := decide_eq_false (Nat.not_lt.mpr h)
  simp [reqWindowTest, absent]

theorem reqWindowTest_present {c : Core} {r : Nat} (h : r < c.cfg.rows) (l : Link) : reqWindowTest l r c =
    ⟨.done, .windowTest (c.cfg.enabled l) (c.cfg.deciding l r) (c.cfg.rightsFor l r)⟩ := by
  have present : c.present r = true := decide_eq_true h
  simp only [reqWindowTest, present, Bool.not_true, Bool.false_eq_true, if_false]
  rfl

/-- In RUN a WINDOW TEST passes the dispatch and answers from the state (R52, R175). -/
theorem exec_windowTest {s : State} (hrun : s.part.core.phase = .run) (l : Link) (r : Nat) :
    exec (.windowTest .P (some l) r) s = .next (s.answered .P .windowTest (reqWindowTest l r s.part.core)) := by
  rw [exec_request _ .P (.windowTest (some l) r) rfl, s.request_answered .P _ _ hrun rfl rfl rfl rfl]
  rfl

end Sys2Proof.Machine

namespace Sys2Proof.Proofs

open Sys2Proof.Machine

/-- Settles O15: the test and every decode of the row both read the one deciding window. -/
theorem windowTestShowsDecode : Obligations.WindowTestShowsDecode := by
  intro s l r hrun c matching
  have matching_iff : ∀ n, matching n ↔ n < 12 ∧ Window.matches (c.cfg.window n) l r = true :=
    fun n => and_congr_right fun _ => (Window.matches_iff _ l r).symm
  refine ⟨fun present => ?present, fun absent => ?absent⟩
  case absent =>
    exact ⟨by rw [exec_windowTest hrun, reqWindowTest_absent absent], Core.decode_absent absent l⟩
  case present =>
    refine ⟨c.cfg.deciding l r, c.cfg.rightsFor l r, ?shown, ?first, fun n => Settings.rightsFor_some,
      Settings.rightsFor_none, fun x => ⟨fun off => Core.decode_disabled present off x, ?unmapped, ?held, ?denied⟩⟩
    case shown => rw [exec_windowTest hrun, reqWindowTest_present present]
    case first =>
      intro n
      rw [Settings.deciding_eq_some, matching_iff, and_assoc]
      refine and_congr_right fun below => and_congr_right fun _ => forall_congr' fun m => imp_congr_right fun lower => ?_
      rw [matching_iff, not_and, Bool.not_eq_true]
      exact ⟨fun no _ => no, fun no => no (Nat.lt_trans lower below)⟩
    case unmapped =>
      intro on unmapped
      rw [Core.decode_enabled present on, Settings.windowAnswer_none unmapped]
    case held =>
      intro on mapped held
      rw [Core.decode_enabled present on, Settings.windowAnswer_isSome mapped, if_pos held]
    case denied =>
      intro on mapped lacking
      rw [Core.decode_enabled present on, Settings.windowAnswer_isSome mapped, lacking]
      rfl

end Sys2Proof.Proofs
end

section
/-! SUPPORT. An event that replaces one hazard record (R128, R133): what it makes of the records, and that it leaves the rest of
the kept core alone but for the zones. -/

namespace Sys2Proof.Machine

/-! ### Events of the blocks in CONFIG_WAIT and RUN (R177) -/

theorem Core.serving_iff (c : Core) : c.serving = true ↔ c.phase = .run ∨ c.phase = .configWait := by
  simp [Core.serving]

theorem State.event_serving (s : State) (f : Core → Ev) (h : s.part.core.serving = true) :
    s.event f = s.ends (f s.part.core) := by
  rw [State.event, if_pos h]
  rfl

/-! ### A hazard record replaced -/

/-- A cause that falls or stays leaves the latch. -/
theorem HazardRec.withCause_falls (x : HazardRec) (l : Sev) (h : ¬rank x.cause < rank (some l)) :
    x.withCause l = { x with cause := some l } := by simp [HazardRec.withCause, h]

section
variable (s : State) (c : Core) (h : Hazard) (x : HazardRec)

/-- The end of an event that replaces one hazard record of the core `c`, with all that follows from it. -/
theorem keptButZones_ends_putHazard : (s.ends ((Ev.start c).putHazard h x)).part.core.keptButZones =
    { (c.setHazard h x).keptButZones with parkOut := (s.ends ((Ev.start c).putHazard h x)).part.core.parkOut } :=
  (keptButZones_finish s.part _ (keepsAccounts_putHazard (Ev.start c) h x (fun _ m => nomatch m))).trans
    (by rw [core_putHazard]; rfl)

theorem hazard_ends_putHazard : (s.ends ((Ev.start c).putHazard h x)).part.core.hazard h = x :=
  (congrArg (fun d => Core.hazard d h) (keptButZones_ends_putHazard s c h x)).trans (hazard_setHazard _ h x)

theorem hazard_ends_putHazard_ne {g : Hazard} (other : g ≠ h) :
    (s.ends ((Ev.start c).putHazard h x)).part.core.hazard g = c.hazard g :=
  (congrArg (fun d => Core.hazard d g) (keptButZones_ends_putHazard s c h x)).trans (hazard_setHazard_ne c h g x other)

theorem frame_ends_putHazard : { (s.ends ((Ev.start c).putHazard h x)).part.core.keptButZones with
    hazards := c.hazards, parkOut := c.parkOut } = c.keptButZones := by
  rw [keptButZones_ends_putHazard]
  rfl

end

end Sys2Proof.Machine
end

section
/-! PROOFS. The LINE filter (R127): a sample replaces the filter, and the LINE record by the record that the sample gives. -/

namespace Sys2Proof.Machine

/-- The filter after a sample, the LINE cause being present or not before it. -/
def LineFilter.sampled (x : LineFilter) (high present : Bool) : LineFilter :=
  { disagree := if !x.strapDue && disagrees high present && decide (x.disagree = 0) then 1 else 0
    lastHigh := high
    strapDue := false }

/-- A sample moves the LINE cause: the strap when it is low, and later the second disagreeing sample in a row. -/
def LineFilter.moves (x : LineFilter) (high present : Bool) : Bool :=
  if x.strapDue then !high else disagrees high present && decide (1 ≤ x.disagree)

/-- The LINE record with the cause that a sample's level gives, `l` being LINE_LEVEL. -/
def HazardRec.lineAfter (x : HazardRec) (high : Bool) (l : Sev) : HazardRec :=
  if high then x.withoutCause else x.withCause l

/-- The core with its filter after a sample. -/
def Core.lineSampled (c : Core) (high : Bool) : Core :=
  { c with line := c.line.sampled high (c.hazard .line).cause.isSome }

/-- The LINE record after a sample. -/
def Core.lineRecord (c : Core) (high : Bool) : HazardRec :=
  if c.line.moves high (c.hazard .line).cause.isSome then (c.hazard .line).lineAfter high c.cfg.lineLevel
  else c.hazard .line

theorem lineCause_eq (e : Ev) (high : Bool) :
    e.lineCause high = e.putHazard .line ((e.core.hazard .line).lineAfter high e.core.cfg.lineLevel) := by
  cases high <;> rfl

theorem hazNSample_eq (high : Bool) (c : Core) :
    hazNSample high c = (Ev.start (c.lineSampled high)).putHazard .line (c.lineRecord high) := by
  have kept : ∀ d : Core, d.hazards = c.hazards → (Ev.start d).putHazard .line (c.hazard .line) = Ev.start d := by
    intro d same
    have record : c.hazard .line = d.hazard .line := by simp only [Core.hazard, same]
    rw [record]
    exact putHazard_same _ _
  unfold hazNSample Core.lineSampled Core.lineRecord LineFilter.sampled LineFilter.moves
  dsimp only
  cases strap : c.line.strapDue with
  | true =>
    cases high with
    | true => simp [kept]
    | false => simp [lineCause_eq, Core.hazard]
  | false =>
    cases disagree : disagrees high (c.hazard .line).cause.isSome with
    | false => simp [kept]
    | true =>
      by_cases second : 1 ≤ c.line.disagree
      · have more : c.line.disagree ≠ 0 := Nat.one_le_iff_ne_zero.mp second
        simp [lineCause_eq, second, more, Core.hazard]
      · have first : c.line.disagree = 0 := by omega
        simp [kept, first]

theorem disagrees_iff (high : Bool) (cause : Option Sev) :
    disagrees high cause.isSome = true ↔ if high then cause ≠ none else cause = none := by
  cases high <;> cases cause <;> simp [disagrees]

section
variable {x : LineFilter} {high present : Bool}

/-- The strap takes the first sample: it leaves the count at 0, and moves the cause when it is low. -/
theorem LineFilter.sampled_strap (h : x.strapDue = true) : x.sampled high present = ⟨0, high, false⟩ := by
  simp [LineFilter.sampled, h]

theorem LineFilter.moves_strap (h : x.strapDue = true) : x.moves high present = !high := if_pos h

/-- A sample that agrees with the cause restarts the count. -/
theorem LineFilter.sampled_agrees (a : disagrees high present = false) : x.sampled high present = ⟨0, high, false⟩ := by
  simp [LineFilter.sampled, a]

theorem LineFilter.moves_agrees (h : x.strapDue = false) (a : disagrees high present = false) :
    x.moves high present = false := by simp [LineFilter.moves, h, a]

/-- The first disagreeing sample is counted. -/
theorem LineFilter.sampled_first (h : x.strapDue = false) (a : disagrees high present = true) (n : x.disagree = 0) :
    x.sampled high present = ⟨1, high, false⟩ := by simp [LineFilter.sampled, h, a, n]

theorem LineFilter.moves_first (h : x.strapDue = false) (n : x.disagree = 0) : x.moves high present = false := by
  simp [LineFilter.moves, h, n]

/-- The second disagreeing sample in a row moves the cause. -/
theorem LineFilter.sampled_second (n : 1 ≤ x.disagree) : x.sampled high present = ⟨0, high, false⟩ := by
  simp [LineFilter.sampled, Nat.one_le_iff_ne_zero.mp n]

theorem LineFilter.moves_second (h : x.strapDue = false) (a : disagrees high present = true) (n : 1 ≤ x.disagree) :
    x.moves high present = true := by simp [LineFilter.moves, h, a, n]

end

section
variable {c : Core} {high : Bool}

theorem Core.lineRecord_stays (h : c.line.moves high (c.hazard .line).cause.isSome = false) :
    c.lineRecord high = c.hazard .line := by rw [Core.lineRecord, h]; rfl

theorem Core.lineRecord_moves (h : c.line.moves high (c.hazard .line).cause.isSome = true) :
    c.lineRecord high = (c.hazard .line).lineAfter high c.cfg.lineLevel := if_pos h

end

end Sys2Proof.Machine

namespace Sys2Proof.Proofs

open Sys2Proof.Machine

/-- Settles O36: the sample is one replacement of the LINE record, by the filter's count or by the strap. -/
theorem lineFilterSamples : Obligations.LineFilterSamples := by
  intro s high phase
  refine ⟨s.ends ((Ev.start (s.part.core.lineSampled high)).putHazard .line (s.part.core.lineRecord high)), ?_⟩
  intro c x old new level disagree appears
  have frame := frame_ends_putHazard s (c.lineSampled high) .line (c.lineRecord high)
  have line : (s.ends ((Ev.start (c.lineSampled high)).putHazard .line (c.lineRecord high))).part.core.line
      = x.sampled high old.cause.isSome := (congrArg Core.line frame :)
  have record : new = c.lineRecord high := hazard_ends_putHazard s (c.lineSampled high) .line (c.lineRecord high)
  have low : new = old.withCause level → appears := fun h =>
    ⟨congrArg HazardRec.cause h, fun absent unlatched armed =>
      h.trans (old.withCause_latches level (by rw [absent]; cases level <;> decide) unlatched (.inr armed))⟩
  have agrees : ¬disagree → disagrees high old.cause.isSome = false := fun h =>
    Bool.eq_false_iff.mpr (mt (disagrees_iff high old.cause).mp h)
  have differs : disagree → disagrees high old.cause.isSome = true := (disagrees_iff high old.cause).mpr
  rw [line]
  refine ⟨?exec, ?strapHigh, ?strapLow, ?agree, ?first, ?appear, ?goes,
    fun h other => hazard_ends_putHazard_ne s (c.lineSampled high) .line _ other, ?rest⟩
  case exec =>
    rw [← hazNSample_eq, ← s.event_serving _ ((Core.serving_iff _).mpr phase)]
    rfl
  case strapHigh =>
    rintro strap rfl
    exact ⟨LineFilter.sampled_strap strap, record.trans (Core.lineRecord_stays (LineFilter.moves_strap strap))⟩
  case strapLow =>
    rintro strap rfl
    exact ⟨LineFilter.sampled_strap strap, low (record.trans (Core.lineRecord_moves (LineFilter.moves_strap strap)))⟩
  case agree =>
    intro strap h
    exact ⟨LineFilter.sampled_agrees (agrees h),
      record.trans (Core.lineRecord_stays (LineFilter.moves_agrees strap (agrees h)))⟩
  case first =>
    intro strap h n
    exact ⟨LineFilter.sampled_first strap (differs h) n,
      record.trans (Core.lineRecord_stays (LineFilter.moves_first strap n))⟩
  case appear =>
    rintro strap h n rfl
    exact ⟨LineFilter.sampled_second n,
      low (record.trans (Core.lineRecord_moves (LineFilter.moves_second strap (differs h) n)))⟩
  case goes =>
    rintro strap h n rfl
    exact ⟨LineFilter.sampled_second n,
      record.trans (Core.lineRecord_moves (LineFilter.moves_second strap (differs h) n))⟩
  case rest => exact (congrArg (fun d : Core => { d with line := x }) frame :)

end Sys2Proof.Proofs
end

section
/-! PROOFS. The requests on the hazard records (R125, R126, R131): each passes the dispatch and replaces one record, and an
acknowledgement ends with its notice alone. -/

namespace Sys2Proof.Machine

/-! ### The end of an event whose one hand-off is a HAZARD notice (R133) -/

theorem drain_nil (n : Nat) (e : Ev) (w : e.work = []) : e.drain n = e := by
  have blank : { e with work := [] } = e := by rw [← w]
  cases n with
  | zero => exact blank
  | succ n => rw [Ev.drain, settle_none e (by rw [w]; rfl), w, List.foldl_nil, blank]

theorem deliver_announceHazard (e : Ev) (h : Hazard) (w : e.work = [.announceHazard h]) :
    e.deliver = { e with work := [], out := e.out ++ [.hazard h] } := by
  have depth : Config.handoffDepth = 9999 + 1 := rfl
  rw [Ev.deliver, depth, Ev.drain, settle_none e (by rw [w]; rfl), w, List.foldl_cons, List.foldl_nil]
  exact drain_nil _ _ rfl

section
variable (c : Core) (h : Hazard) (x : HazardRec) (latch : x.latched = (c.hazard h).latched)
include latch

/-- A record replaced with its latch kept leaves every zone its hazards. -/
theorem zoneHazards_setHazard (z : Nat) : (c.setHazard h x).zoneHazards z = c.zoneHazards z := by
  unfold Core.zoneHazards
  congr 1
  funext g
  by_cases same : g = h
  · rw [same, hazard_setHazard, latch]
    rfl
  · rw [hazard_setHazard_ne c h g x same]
    rfl

/-- A record replaced with its latch kept calls for no zone test. -/
theorem endTests_setHazard (e : Ev) (left : e.core = c.setHazard h x) : e.endTests c = e := by
  have touches : ∀ d z, touched c d z = touched (c.setHazard h x) d z := by
    intro d z
    simp only [touched, zoneHazards_setHazard c h x latch]
    rfl
  have begun : e.endTests c = e.endTests (c.setHazard h x) := by
    simp only [Ev.endTests, touches]
    rfl
  rw [begun, endTests_calm e _ (by rw [left]; exact Core.Calm.refl _)]

end

/-- A record replaced with its latch and its level kept hands its HAZARD notice to the queues, and nothing else follows. -/
theorem ends_putHazard_kept (s : State) (h : Hazard) (x : HazardRec) (changed : x ≠ s.part.core.hazard h)
    (latch : x.latched = (s.part.core.hazard h).latched) (level : x.level = (s.part.core.hazard h).level) :
    s.ends ((Ev.start s.part.core).putHazard h x)
      = s.told (s.part.core.setHazard h x) [(s.part.core.setHazard h x).render (.hazard h)] := by
  have put : (Ev.start s.part.core).putHazard h x = ⟨s.part.core.setHazard h x, [.announceHazard h], []⟩ := by
    rw [putHazard_changed (Ev.start s.part.core) h x changed, if_pos ⟨latch, level⟩]
    rfl
  rw [State.ends, Part.finish, put, deliver_announceHazard _ h rfl, endTests_setHazard s.part.core h x latch _ rfl]
  rfl

/-! ### The requests -/

/-- In RUN a request that is an event ends it, and its reply is built. -/
theorem exec_act (s : State) {i : Instr} {l : Link} {q : Request} {r : Reply × Ev} (hrun : s.part.core.phase = .run)
    (hi : requestOf i = some (l, q)) (v : validOn q.type l = true) (m : Request.malformed q = false)
    (f : flagTested q.type = true → s.part.core.cfg.enabled l = true) (a : s.part.perform l q = s.part.act r) :
    exec i s = .next ((s.ends r.2).answered l q.type r.1) := by
  rw [exec_request i l q hi, s.request_run l q hrun v m f, a]
  rfl

theorem reqHazardAck_unlatched (c : Core) (h : Hazard) (un : (c.hazard h).latched = false) :
    reqHazardAck h c = (refuse .state, Ev.start c) := by simp [reqHazardAck, un]

theorem reqHazardAck_latched (c : Core) (h : Hazard) (latched : (c.hazard h).latched = true) :
    reqHazardAck h c = (⟨.done, .ackRecord true (c.hazard h).level (c.hazard h).cause true⟩,
      (Ev.start c).putHazard h { c.hazard h with ackPending := true }) := by simp [reqHazardAck, latched]

end Sys2Proof.Machine

namespace Sys2Proof.Proofs

open Sys2Proof.Machine

/-- Settles O37: a request replaces one record by the record with its cause, without it, or acknowledged. -/
theorem hazardRequests : Obligations.HazardRequests := by
  intro s hrun c moves sets clears
  have moved : ∀ {i : Instr} {l : Link} {q : Request} {h : Hazard} (new : HazardRec), requestOf i = some (l, q) →
      validOn q.type l = true → Request.malformed q = false → (flagTested q.type = true → c.cfg.enabled l = true) →
      s.part.perform l q = s.part.act (((Ev.start c).putHazard h new).causeReply h) → moves i l h new := by
    intro i l q h new hi v m f a
    refine ⟨_, exec_act s hrun hi v m f a, ?_, hazard_ends_putHazard s c h new,
      fun g other => hazard_ends_putHazard_ne s c h new other, frame_ends_putHazard s c h new⟩
    rw [State.replyOn_answered, Ev.causeReply, core_putHazard, hazard_setHazard]
  have sets_of : ∀ {i : Instr} {l : Link} {h : Hazard} {level : Sev}, moves i l h ((c.hazard h).withCause level) →
      sets i l h level := by
    intro i l h level made
    refine ⟨fun up un g => ?_, fun up un g r => ?_, fun up la g => ?_, fun up la g r => ?_, fun down => ?_⟩
    · rwa [HazardRec.withCause_latches _ level up un g] at made
    · rwa [HazardRec.withCause_rearm _ level up un g r] at made
    · rwa [HazardRec.withCause_raises _ level up la g] at made
    · rwa [HazardRec.withCause_stays _ level up la g r] at made
    · rwa [HazardRec.withCause_falls _ level down] at made
  have clears_of : ∀ {i : Instr} {l : Link} {h : Hazard}, moves i l h (c.hazard h).withoutCause → clears i l h := by
    intro i l h made
    refine ⟨fun _ => made, fun absent armed => ?_⟩
    have same : (c.hazard h).withoutCause = c.hazard h := by rw [HazardRec.withoutCause, ← absent, ← armed]
    rwa [same] at made
  refine ⟨fun level => sets_of (moved _ (q := .parkOrder (some level)) rfl rfl rfl (fun _ => rfl) rfl),
    clears_of (moved _ (q := .parkRelease) rfl rfl rfl (fun _ => rfl) rfl),
    fun on => sets_of (moved _ (q := .stowAll) rfl rfl rfl (fun _ => on) rfl),
    fun on => clears_of (moved _ (q := .stowAllEnd) rfl rfl rfl (fun _ => on) rfl), fun h => ?ack⟩
  case ack =>
    intro x c' taken
    have made : exec (.hazardAck .P (some h)) s
        = .next ((s.ends (reqHazardAck h c).2).answered .P .hazardAck (reqHazardAck h c).1) :=
      exec_act s (q := .hazardAck (some h)) hrun rfl rfl rfl (fun _ => rfl) rfl
    have calm : s.ends (Ev.start c) = s.told c [] := s.ends_calm _ rfl (Core.Calm.refl _)
    refine ⟨fun un => ?_, fun la new => ?_, fun la old => ?_⟩
    · rw [made, reqHazardAck_unlatched c h un, calm]
    · have changed : { x with ackPending := true } ≠ x := fun same =>
        Bool.noConfusion ((congrArg HazardRec.ackPending same).trans new)
      rw [made, reqHazardAck_latched c h la, ends_putHazard_kept s h _ changed rfl rfl]
    · have same : { x with ackPending := true } = x := by rw [← old]
      have put : (Ev.start c).putHazard h { x with ackPending := true } = Ev.start c := by
        rw [same]
        exact putHazard_same _ _
      rw [made, reqHazardAck_latched c h la, put, calm]

end Sys2Proof.Proofs
end

section
/-! PROOFS. The review boundary (R129, R130): it acts on the core as it stands, or with the seconds of its tick counted, and
clears every record that its clearing mode clears. -/

namespace Sys2Proof.Machine

/-! ### What a boundary does -/

/-- The core with the hazards of `hs` cleared. -/
def Core.clearedAll (c : Core) (hs : List Hazard) : Core := hs.foldl (fun c h => c.setHazard h (c.hazard h).cleared) c

/-- The core with the review timer restarted and the hazards cleared by their clearing modes (R130). -/
def Core.reviewed (c : Core) : Core := ({ c with review := some c.cfg.review } : Core).clearedAll c.reviewClears

/-- The event of a review boundary whose timer has run down. -/
def reviewBoundary (c : Core) : Ev :=
  (Ev.start c.reviewed).handAll
    ((zoneNumbers.filter (fun z => c.reviewClears.any (fun h => (c.cfg.map h).getLsbD z))).map (fun z => Handoff.evalZone z true)
      ++ c.reviewClears.map Handoff.announceHazard)

theorem hazardReview_eq (c : Core) : hazardReview c = c.atExpiry (fun c => c.review) true reviewBoundary := rfl

theorem HazardRec.cleared_cleared (x : HazardRec) : x.cleared.cleared = x.cleared := rfl

theorem Core.hazard_clearedAll (hs : List Hazard) (c : Core) (h : Hazard) :
    (c.clearedAll hs).hazard h = if h ∈ hs then (c.hazard h).cleared else c.hazard h := by
  unfold Core.clearedAll
  induction hs generalizing c with
  | nil => rfl
  | cons g hs ih =>
    rw [List.foldl_cons, ih]
    by_cases same : h = g
    · rw [same, hazard_setHazard, HazardRec.cleared_cleared, ite_self, if_pos List.mem_cons_self]
    · rw [hazard_setHazard_ne c g h _ same]
      simp only [List.mem_cons, same, false_or]

/-- Clearing records changes the records alone. -/
theorem Core.clearedAll_frame (hs : List Hazard) (c : Core) (x : Hazards) :
    { c.clearedAll hs with hazards := x } = { c with hazards := x } := by
  unfold Core.clearedAll
  induction hs generalizing c with
  | nil => rfl
  | cons g hs ih =>
    rw [List.foldl_cons, ih]
    rfl

theorem Core.mem_reviewClears (c : Core) (h : Hazard) :
    h ∈ c.reviewClears ↔ (c.hazard h).clears (c.cfg.mode h) = true := by
  have all : h ∈ Hazard.all := by cases h <;> decide
  simp only [Core.reviewClears, List.mem_filter, all, true_and]

theorem Core.hazard_reviewed (c : Core) (h : Hazard) : c.reviewed.hazard h =
    if (c.hazard h).clears (c.cfg.mode h) = true then (c.hazard h).cleared else c.hazard h := by
  have before : ({ c with review := some c.cfg.review } : Core).hazard h = c.hazard h := by cases h <;> rfl
  simp only [Core.reviewed, Core.hazard_clearedAll, before, Core.mem_reviewClears]

theorem Core.reviewed_frame (c : Core) (x : Hazards) (n : Option Nat) :
    { c.reviewed with hazards := x, review := n } = { c with hazards := x, review := n } :=
  congrArg (fun d : Core => { d with review := n }) (Core.clearedAll_frame c.reviewClears _ x)

theorem Core.review_reviewed (c : Core) : c.reviewed.review = some c.cfg.review :=
  (congrArg Core.review (Core.clearedAll_frame c.reviewClears { c with review := some c.cfg.review } c.hazards) :)

theorem keepsAccounts_reviewBoundary (c : Core) : ∀ g ∈ (reviewBoundary c).work, g.keepsAccounts = true := by
  intro g m
  simp only [reviewBoundary, Ev.work_handAll, Ev.work_start, List.nil_append] at m
  rcases List.mem_append.mp m with m | m
  · obtain ⟨z, -, rfl⟩ := List.mem_map.mp m
    rfl
  · obtain ⟨h, -, rfl⟩ := List.mem_map.mp m
    rfl

section
variable (s : State) (c : Core)

/-- The end of a boundary on the core `c`, with all that follows from it. -/
theorem keptButZones_ends_reviewBoundary : (s.ends (reviewBoundary c)).part.core.keptButZones =
    { c.reviewed.keptButZones with parkOut := (s.ends (reviewBoundary c)).part.core.parkOut } :=
  keptButZones_finish s.part _ (keepsAccounts_reviewBoundary c)

theorem review_ends_reviewBoundary : (s.ends (reviewBoundary c)).part.core.review = some c.cfg.review :=
  (congrArg Core.review (keptButZones_ends_reviewBoundary s c)).trans c.review_reviewed

theorem hazard_ends_reviewBoundary (h : Hazard) : (s.ends (reviewBoundary c)).part.core.hazard h =
    if (c.hazard h).clears (c.cfg.mode h) = true then (c.hazard h).cleared else c.hazard h :=
  (congrArg (fun d => Core.hazard d h) (keptButZones_ends_reviewBoundary s c)).trans (c.hazard_reviewed h)

theorem frame_ends_reviewBoundary : { (s.ends (reviewBoundary c)).part.core.keptButZones with
    review := c.review, hazards := c.hazards, parkOut := c.parkOut } = c.keptButZones := by
  rw [keptButZones_ends_reviewBoundary]
  have parkOut : c.reviewed.parkOut = c.parkOut := (congrArg Core.parkOut (c.reviewed_frame c.hazards c.review) :)
  rw [← parkOut]
  exact congrArg Core.keptButZones (c.reviewed_frame c.hazards c.review)

end

/-! ### When it acts (log entry 6) -/

/-- The core that a boundary acts on: as it stands when the timer has run down, and else with the seconds of its tick. -/
def Core.atBoundary (c : Core) : Core := if c.review = some 0 then c else c.counted

theorem Core.cfg_atBoundary (c : Core) : c.atBoundary.cfg = c.cfg := by
  unfold Core.atBoundary
  split
  · rfl
  · exact c.cfg_counted

theorem Core.hazard_atBoundary (c : Core) (h : Hazard) : c.atBoundary.hazard h = c.hazard h := by
  unfold Core.atBoundary
  split
  · rfl
  · cases h <;> simp only [Core.hazard, Core.hazards_counted]

theorem Core.phase_atBoundary (c : Core) : c.atBoundary.phase = c.phase := by
  unfold Core.atBoundary
  split
  · rfl
  · exact c.phase_counted

theorem Core.atBoundary_now (c : Core) (zero : c.review = some 0) : c.atBoundary = c := if_pos zero

theorem Core.atBoundary_before (c : Core) (one : c.review = some 1) (due : c.ticked = false) :
    c.atBoundary = { c.second with ticked := true } := by
  rw [Core.atBoundary, if_neg (by rw [one]; decide), c.counted_due due]

/-- A boundary acts when the timer has run down or has the second of the tick left. -/
theorem exec_hazardReviewBoundary (s : State) (serving : s.part.core.serving = true)
    (h : s.part.core.review = some 0 ∨ (s.part.core.review = some 1 ∧ s.part.core.ticked = false)) :
    exec .hazardReviewBoundary s = .next (s.ends (reviewBoundary s.part.core.atBoundary)) := by
  show Host.Outcome.next (s.event hazardReview) = _
  rw [State.event_serving _ _ serving, hazardReview_eq]
  rcases h with zero | ⟨one, due⟩
  · rw [Core.atExpiry_now _ _ _ zero, Core.atBoundary_now _ zero]
  · have counted : s.part.core.counted.review = some 0 := by rw [Core.review_counted, due, one]; rfl
    rw [Core.atExpiry_counts _ _ _ one counted, Core.atBoundary, if_neg (by rw [one]; decide)]

/-- What a boundary that acts leaves: the review period, the records by their clearing modes, and the rest of the kept core
but zones. -/
theorem exec_hazardReviewBoundary_spec (s : State) (serving : s.part.core.serving = true)
    (h : s.part.core.review = some 0 ∨ (s.part.core.review = some 1 ∧ s.part.core.ticked = false)) :
    ∃ t : State, exec .hazardReviewBoundary s = .next t
      ∧ t.part.core.review = some s.part.core.cfg.review
      ∧ (∀ h, t.part.core.hazard h =
          if (s.part.core.hazard h).clears (s.part.core.cfg.mode h) = true then (s.part.core.hazard h).cleared
          else s.part.core.hazard h)
      ∧ { t.part.core.keptButZones with
          review := s.part.core.atBoundary.review, hazards := s.part.core.atBoundary.hazards
          parkOut := s.part.core.atBoundary.parkOut } = s.part.core.atBoundary.keptButZones := by
  refine ⟨_, exec_hazardReviewBoundary s serving h, ?_, fun h => ?_, frame_ends_reviewBoundary s _⟩
  · rw [review_ends_reviewBoundary, Core.cfg_atBoundary]
  · rw [hazard_ends_reviewBoundary, Core.cfg_atBoundary, Core.hazard_atBoundary]

/-- A wind evaluation counts the seconds of its tick for the review timer, unless they are counted. -/
theorem exec_windEvaluation_review (s : State) (serving : s.part.core.serving = true) :
    ∃ u : State, exec .windEvaluation s = .next u
      ∧ u.part.core.review = (if s.part.core.ticked then s.part.core.review else tick s.part.core.review)
      ∧ u.part.core.ticked = false := by
  have kept := keptButZones_windEvaluation s.part
  refine ⟨s.ends (windEvaluation s.part.core), ?_, ?_, (congrArg Core.ticked kept :)⟩
  · rw [← s.event_serving _ serving]
    rfl
  · rw [← Core.review_counted]
    exact (congrArg Core.review kept :)

end Sys2Proof.Machine

namespace Sys2Proof.Proofs

open Sys2Proof.Machine

/-- Settles O38: the boundary acts on the records as they stand before the evaluation of its tick, and that evaluation counts
a second only when the boundary has not counted it. -/
theorem hazardReview : Obligations.HazardReview := by
  intro s phase c before acts
  have serving : c.serving = true := c.serving_iff.mpr phase
  obtain ⟨t, boundary, review, record, frame⟩ := exec_hazardReviewBoundary_spec s serving acts
  refine ⟨t, ?_⟩
  intro clears unchanged
  have clears_iff : ∀ h, clears h ↔ (c.hazard h).clears (c.cfg.mode h) = true := by
    intro h
    simp only [clears, HazardRec.clears, Bool.and_eq_true]
    cases c.cfg.mode h <;> simp
  have kept : unchanged c.atBoundary := frame
  refine ⟨boundary, review, fun h yes => (record h).trans (if_pos ((clears_iff h).mp yes)),
    fun h no => (record h).trans (if_neg (mt (clears_iff h).mpr no)), ?now, ?first, ?after⟩
  case now =>
    intro zero
    rwa [c.atBoundary_now zero] at kept
  case first =>
    rintro ⟨one, due⟩
    have ticked : t.part.core.ticked = true :=
      (congrArg Core.ticked frame :).trans (congrArg Core.ticked (c.atBoundary_before one due))
    have same : t.part.core.phase = c.phase := (congrArg Core.phase frame :).trans c.phase_atBoundary
    obtain ⟨u, evaluates, left, fresh⟩ := exec_windEvaluation_review t ((Core.serving_iff _).mpr (by rwa [same]))
    rw [ticked, if_pos rfl, review] at left
    rw [c.atBoundary_before one due] at kept
    exact ⟨kept, ticked, u, evaluates, left, fresh⟩
  case after =>
    rintro ⟨one, due⟩
    obtain ⟨u, evaluates, left, fresh⟩ := exec_windEvaluation_review s serving
    have zero : (if c.ticked then c.review else tick c.review) = some 0 := by rw [due, one]; rfl
    exact ⟨u, evaluates, left.trans zero, fresh⟩

end Sys2Proof.Proofs
end
